-- ==== Sys2Proof/Word.lean ====
section
/-! DEFINITION. The widths of the values the spec treats as bits (00_scope.md R9). -/

namespace Sys2Proof

/-- A chip register value or a payload byte: 8 bits (R9). -/
abbrev Byte := BitVec 8

/-- A 16-bit value: a response VALUE, an RSSI, a preamble length (R9, R84). -/
abbrev Half := BitVec 16

/-- A CSR value of the host bus: 32 bits (R24). -/
abbrev Word := BitVec 32

/-- A command word: 64 bits (R80). -/
abbrev CmdWord := BitVec 64

/-- A chip register address: 7 bits (R9, R61). -/
abbrev ChipAddr := BitVec 7

/-- A byte address of the host bus: 10 bits (R60). -/
abbrev BusAddr := BitVec 10

end Sys2Proof
end

