-- ==== Sys2Proof/Config.lean ====
section
/-! DEFINITION. What an implementation fixes (the parameters of 00_scope.md R8), the turns the agents take
(10_state.md R20), and the free values of what the spec leaves open (93_implementation_defined.md part 1). -/

namespace Sys2Proof.Config

/-- REGMAP (R50): the chip register addresses the controller accesses, in the order of the rule's table. -/
structure RegMap where
  fifo : ChipAddr
  opMode : ChipAddr
  frfMsb : ChipAddr
  frfMid : ChipAddr
  frfLsb : ChipAddr
  paConfig : ChipAddr
  ocp : ChipAddr
  lna : ChipAddr
  fifoAddrPtr : ChipAddr
  fifoTxBase : ChipAddr
  fifoRxBase : ChipAddr
  fifoRxCurrent : ChipAddr
  irqFlags : ChipAddr
  rxNbBytes : ChipAddr
  pktSnr : ChipAddr
  pktRssi : ChipAddr
  rssi : ChipAddr
  modemConfig1 : ChipAddr
  modemConfig2 : ChipAddr
  preambleMsb : ChipAddr
  preambleLsb : ChipAddr
  payloadLength : ChipAddr
  modemConfig3 : ChipAddr
  detectionOptimize : ChipAddr
  detectionThreshold : ChipAddr
  syncWord : ChipAddr
  dioMapping1 : ChipAddr
  version : ChipAddr
  paDac : ChipAddr
deriving DecidableEq, Repr

/-- The default REGMAP, the table of R50. -/
def RegMap.default : RegMap where
  fifo := 0x00
  opMode := 0x01
  frfMsb := 0x06
  frfMid := 0x07
  frfLsb := 0x08
  paConfig := 0x09
  ocp := 0x0B
  lna := 0x0C
  fifoAddrPtr := 0x0D
  fifoTxBase := 0x0E
  fifoRxBase := 0x0F
  fifoRxCurrent := 0x10
  irqFlags := 0x12
  rxNbBytes := 0x13
  pktSnr := 0x19
  pktRssi := 0x1A
  rssi := 0x1B
  modemConfig1 := 0x1D
  modemConfig2 := 0x1E
  preambleMsb := 0x20
  preambleLsb := 0x21
  payloadLength := 0x22
  modemConfig3 := 0x26
  detectionOptimize := 0x31
  detectionThreshold := 0x37
  syncWord := 0x39
  dioMapping1 := 0x40
  version := 0x42
  paDac := 0x4D

/-- The addresses of a REGMAP, as one list. -/
def RegMap.addrs (r : RegMap) : List ChipAddr :=
  [r.fifo, r.opMode, r.frfMsb, r.frfMid, r.frfLsb, r.paConfig, r.ocp, r.lna, r.fifoAddrPtr, r.fifoTxBase,
   r.fifoRxBase, r.fifoRxCurrent, r.irqFlags, r.rxNbBytes, r.pktSnr, r.pktRssi, r.rssi, r.modemConfig1,
   r.modemConfig2, r.preambleMsb, r.preambleLsb, r.payloadLength, r.modemConfig3, r.detectionOptimize,
   r.detectionThreshold, r.syncWord, r.dioMapping1, r.version, r.paDac]

/-- PIN_RELEASED (R8, R106, U16): the electrical state of a released output. -/
inductive ReleasedLevel
  | highZ
  | low
  | high
deriving DecidableEq, Repr

/-- The parameters of R8. TICK_MS is fixed and SPI_TIMING does not enter a model of whole transfers (R114). -/
structure Params where
  /-- SPI_HZ: no rule of the model depends on it (R250). -/
  spiHz : Nat
  cmdqDepth : Nat
  rspqDepth : Nat
  evtqDepth : Nat
  eqDepth : Nat
  prefixMax : Nat
  hasSpiErr : Bool
  regmap : RegMap
  pinReleased : ReleasedLevel
deriving DecidableEq, Repr

/-- The defaults of R8. -/
def Params.default : Params where
  spiHz := 8000000
  cmdqDepth := 8
  rspqDepth := 8
  evtqDepth := 8
  eqDepth := 4
  prefixMax := 32
  hasSpiErr := false
  regmap := RegMap.default
  pinReleased := .highZ

/-- The legal values of the parameters: the bounds of R8, the distinct addresses of R50, and room for the reset
string "ECHO:" under an 8-bit length field (DEDUCED, log 15). -/
def Params.legal (p : Params) : Bool :=
  decide (p.spiHz ≤ 8000000) && decide (1 ≤ p.cmdqDepth) && decide (1 ≤ p.rspqDepth) &&
  decide (1 ≤ p.evtqDepth) && decide (2 ≤ p.eqDepth) && decide (5 ≤ p.prefixMax) &&
  decide (p.prefixMax ≤ 255) && decide p.regmap.addrs.Nodup

/-- Which of the three actions that R190 leaves open the echo sequencer prefers in a turn (U6, D49). -/
inductive EchoPick
  | arm
  | echo
  | event
deriving DecidableEq, Repr, Inhabited

/-- One turn of one agent (R20), or of the reset input (R241). Which turn comes next is open (R229, D49). -/
inductive Turn
  /-- ENG: up to `n` atomic actions of the current message; an idle engine first takes the head of INQ (log 3). -/
  | eng (n : Nat)
  /-- TIMER: one pulse of `tick_i` (R110). -/
  | tick
  /-- ECHO: one step of the echo sequencer (R190). -/
  | echo (pick : EchoPick)
  /-- EDGE: one detected rising edge on `dio0_i`, the environment action `env edge` of R107. -/
  | edge
  /-- EDGE: one rising edge of `clk_i` with this level on `dio0_i` (R107). -/
  | clk (level : Bool)
  /-- HOST: a bus write (R24, R66, R67). -/
  | hostWrite (a : BusAddr) (d : Word)
  /-- HOST: a bus read (R24, R67, R69). -/
  | hostRead (a : BusAddr)
  /-- `rst_ni` asserted and released (R240, R241). -/
  | reset
deriving DecidableEq, Repr, Inhabited

/-- The turn taken when the state lists no more of them: free (D49, U5, U6; log 2). -/
opaque freeTurn : Nat → Turn

/-- The chip's answer to the k-th register read, where the state's script has none: free (R62, U4; log 4). -/
opaque freeChipAnswer : Nat → Byte

/-- The level of `spi_err_i` at the end of the k-th transfer, where the state's script has none: free (D29; log 5). -/
opaque freeSpiErr : Nat → Bool

/-- The content of TXBUF byte `i` not written since the `epoch`-th reset: free (R38, U1; log 6). -/
opaque freeTxByte (epoch i : Nat) : Byte

end Sys2Proof.Config
end

