-- ==== Sys2Proof/Syntax.lean ====
section
/-! DEFINITION. The commands, one constructor per row of spec/opcode_table.json, in its order (30_encoding.md R82).
Operands are numbers as R81 extracts them, whole and zero-extended; their fields' widths are checked in
`Sys2Proof.Instr.wellFormed`, their legal ranges (R90) when the command runs. -/

namespace Sys2Proof

/-- The 19 host commands of R82. Fields an opcode does not use are ignored (R81) and are no operands. -/
inductive Instr
  /-- BEGIN (R120): ARG is the frequency in Hz. -/
  | begin (freq : Nat)
  /-- SET_FREQUENCY (R125): ARG is the frequency in Hz. -/
  | setFrequency (freq : Nat)
  /-- SET_SF (R126): ARG is the spreading factor. -/
  | setSf (sf : Nat)
  /-- SET_BW (R129): ARG is the bandwidth index. -/
  | setBw (k : Nat)
  /-- SET_CR (R130): ARG is the code-rate denominator. -/
  | setCr (cr : Nat)
  /-- SET_TX_POWER (R131): ARG is the power in dBm. -/
  | setTxPower (p : Nat)
  /-- SET_SYNC_WORD (R132): ARG is the sync word. -/
  | setSyncWord (w : Nat)
  /-- TRANSMIT (R160): ARG is the payload length. -/
  | transmit (n : Nat)
  /-- RECEIVE_MODE (R143): ARG is the timeout in ms, 0 = continuous. -/
  | receiveMode (t : Nat)
  /-- STANDBY (R141). -/
  | standby
  /-- SLEEP (R142). -/
  | sleep
  /-- HARDWARE_RESET (R146). -/
  | hardwareReset
  /-- DISCONNECT (R147). -/
  | disconnect
  /-- GET_RSSI (R149). -/
  | getRssi
  /-- GET_VERSION (R148). -/
  | getVersion
  /-- SUBSCRIBE (R150): SUB[2:0] is the subscriber id. -/
  | subscribe (id : Nat)
  /-- UNSUBSCRIBE (R151): SUB[2:0] is the subscriber id. -/
  | unsubscribe (id : Nat)
  /-- ECHO_START (R191): SUB[0] LOAD_PREFIX, SUB[1] LOAD_DELAY, ARG[15:0] delay_ms, ARG[23:16] prefix length. -/
  | echoStart (loadPrefix loadDelay : Bool) (delay plen : Nat)
  /-- ECHO_STOP (R192). -/
  | echoStop
deriving DecidableEq, Repr

end Sys2Proof
end

