-- ==== Sys2Proof/WellFormed.lean ====
section
/-! DEFINITION. Which terms of `Sys2Proof.Instr` are commands: each operand fits the field of R80, R90 that holds it. -/

namespace Sys2Proof

/-- Every operand fits its field: ARG is 32 bits; SUB[2:0] is 3; ECHO_START's delay is 16 and its prefix length 8
(R80, R90). -/
def Instr.wellFormed : Instr → Bool
  | .begin f => decide (f < 2 ^ 32)
  | .setFrequency f => decide (f < 2 ^ 32)
  | .setSf sf => decide (sf < 2 ^ 32)
  | .setBw k => decide (k < 2 ^ 32)
  | .setCr cr => decide (cr < 2 ^ 32)
  | .setTxPower p => decide (p < 2 ^ 32)
  | .setSyncWord w => decide (w < 2 ^ 32)
  | .transmit n => decide (n < 2 ^ 32)
  | .receiveMode t => decide (t < 2 ^ 32)
  | .standby => true
  | .sleep => true
  | .hardwareReset => true
  | .disconnect => true
  | .getRssi => true
  | .getVersion => true
  | .subscribe id => decide (id < 2 ^ 3)
  | .unsubscribe id => decide (id < 2 ^ 3)
  | .echoStart _ _ delay plen => decide (delay < 2 ^ 16) && decide (plen < 2 ^ 8)
  | .echoStop => true

end Sys2Proof
end

