-- ==== Sys2Proof/Decode.lean ====
section
/-! DEFINITION. Decoding and encoding of command words (30_encoding.md R80 to R83, R90). -/

namespace Sys2Proof

/-- OP = w[63:56] (R81). -/
def opField (w : CmdWord) : Byte := w.extractLsb' 56 8

/-- SUB = w[55:48] (R81). -/
def subField (w : CmdWord) : Byte := w.extractLsb' 48 8

/-- ARG = w[31:0] (R81). -/
def argField (w : CmdWord) : Word := w.extractLsb' 0 32

/-- The word of an opcode, its SUB and its ARG, with RSV = 0 (R80). -/
def cmdWord (op sub : Byte) (arg : Word) : CmdWord := op ++ sub ++ (0 : BitVec 16) ++ arg

/-- Why a word is no command. -/
inductive Reject
  /-- OP is 0x00 or 0x14..0xFF (R83). The engine answers INVALID_PARAM; it does not stop. -/
  | reservedOpcode (op : Byte)
deriving DecidableEq, Repr

/-- The opcode of a command (R82). -/
def Instr.opcode : Instr → Byte
  | .begin _ => 0x01
  | .setFrequency _ => 0x02
  | .setSf _ => 0x03
  | .setBw _ => 0x04
  | .setCr _ => 0x05
  | .setTxPower _ => 0x06
  | .setSyncWord _ => 0x07
  | .transmit _ => 0x08
  | .receiveMode _ => 0x09
  | .standby => 0x0A
  | .sleep => 0x0B
  | .hardwareReset => 0x0C
  | .disconnect => 0x0D
  | .getRssi => 0x0E
  | .getVersion => 0x0F
  | .subscribe _ => 0x10
  | .unsubscribe _ => 0x11
  | .echoStart _ _ _ _ => 0x12
  | .echoStop => 0x13

/-- A command word is selected by OP alone (R82); the operands are the fields of R90; RSV and the fields an opcode
does not use are ignored (R81). -/
def decode (w : CmdWord) : Except Reject Instr :=
  let arg := (argField w).toNat
  match (opField w).toNat with
  | 0x01 => .ok (.begin arg)
  | 0x02 => .ok (.setFrequency arg)
  | 0x03 => .ok (.setSf arg)
  | 0x04 => .ok (.setBw arg)
  | 0x05 => .ok (.setCr arg)
  | 0x06 => .ok (.setTxPower arg)
  | 0x07 => .ok (.setSyncWord arg)
  | 0x08 => .ok (.transmit arg)
  | 0x09 => .ok (.receiveMode arg)
  | 0x0A => .ok .standby
  | 0x0B => .ok .sleep
  | 0x0C => .ok .hardwareReset
  | 0x0D => .ok .disconnect
  | 0x0E => .ok .getRssi
  | 0x0F => .ok .getVersion
  | 0x10 => .ok (.subscribe ((subField w).extractLsb' 0 3).toNat)
  | 0x11 => .ok (.unsubscribe ((subField w).extractLsb' 0 3).toNat)
  | 0x12 => .ok (.echoStart ((subField w).getLsbD 0) ((subField w).getLsbD 1)
      ((argField w).extractLsb' 0 16).toNat ((argField w).extractLsb' 16 8).toNat)
  | 0x13 => .ok .echoStop
  | _ => .error (.reservedOpcode (opField w))

/-- The word of a command, RSV and unused fields 0 (R80, R82, R90). -/
def encode : Instr → CmdWord
  | .begin f => cmdWord 0x01 0 (BitVec.ofNat 32 f)
  | .setFrequency f => cmdWord 0x02 0 (BitVec.ofNat 32 f)
  | .setSf sf => cmdWord 0x03 0 (BitVec.ofNat 32 sf)
  | .setBw k => cmdWord 0x04 0 (BitVec.ofNat 32 k)
  | .setCr cr => cmdWord 0x05 0 (BitVec.ofNat 32 cr)
  | .setTxPower p => cmdWord 0x06 0 (BitVec.ofNat 32 p)
  | .setSyncWord v => cmdWord 0x07 0 (BitVec.ofNat 32 v)
  | .transmit n => cmdWord 0x08 0 (BitVec.ofNat 32 n)
  | .receiveMode t => cmdWord 0x09 0 (BitVec.ofNat 32 t)
  | .standby => cmdWord 0x0A 0 0
  | .sleep => cmdWord 0x0B 0 0
  | .hardwareReset => cmdWord 0x0C 0 0
  | .disconnect => cmdWord 0x0D 0 0
  | .getRssi => cmdWord 0x0E 0 0
  | .getVersion => cmdWord 0x0F 0 0
  | .subscribe id => cmdWord 0x10 ((0 : BitVec 5) ++ BitVec.ofNat 3 id) 0
  | .unsubscribe id => cmdWord 0x11 ((0 : BitVec 5) ++ BitVec.ofNat 3 id) 0
  | .echoStart lp ld delay plen =>
      cmdWord 0x12 ((0 : BitVec 6) ++ BitVec.ofBool ld ++ BitVec.ofBool lp)
        ((0 : BitVec 8) ++ BitVec.ofNat 8 plen ++ BitVec.ofNat 16 delay)
  | .echoStop => cmdWord 0x13 0 0

/-- The instruction of a table word: a command is one 64-bit word, numbered as R80 numbers it, so the `nbits` of a
row are its low bits and the rest are 0. -/
def decodeTableWord (nbits w : Nat) : Option Instr :=
  match decode (BitVec.ofNat 64 (w % 2 ^ nbits)) with
  | .ok i => some i
  | .error _ => none

end Sys2Proof
end

