-- ==== Sys2Proof/Machine/State.lean ====
section
/-! DEFINITION. Everything the spec gives the controller (10_state.md), as plain data, with the reasons a step can
stop and the reset state (70_reset_and_hazards.md R240). -/

namespace Sys2Proof.Machine

/-- x[MODE] (R45). -/
inductive Mode
  | sleep
  | standby
  | tx
  | rxCont
  | rxSingle
  | unknown
deriving DecidableEq, Repr

/-- The status codes a response or a reply can carry (R85); codes 8 to 15 are never produced. -/
inductive Status
  | ok
  | notConnected
  | alreadyRunning
  | invalidChip
  | ioError
  | timeout
  | invalidParam
  | resourceBusy
deriving DecidableEq, Repr

/-- The output pins that `Drive` and `Release` act on (R21, R106). -/
inductive Pin
  | cs
  | reset
  | sclk
  | mosi
deriving DecidableEq, Repr

/-- The state of an output pin (R105, R106): released (`PIN_RELEASED`) or driven to a level. -/
inductive PinState
  | released
  | driven (level : Bool)
deriving DecidableEq, Repr

/-- One entry of the bus history (R62, R106). -/
inductive BusEvent
  /-- (R, address, value read). -/
  | read (a : ChipAddr) (v : Byte)
  /-- (W, address, value written). -/
  | write (a : ChipAddr) (v : Byte)
  /-- (P, pin, level or release). -/
  | pin (p : Pin) (l : PinState)
deriving DecidableEq, Repr

/-- The operations an echo call can ask for (R34, R93). -/
inductive CallOp
  | receiveMode
  | transmit
deriving DecidableEq, Repr

/-- A message of INQ (R34). -/
inductive Msg
  /-- HCMD(word): a host command. -/
  | hcmd (w : CmdWord)
  /-- ECALL(op, arg, session): an echo call. -/
  | ecall (op : CallOp) (arg session : Word)
  /-- EDGE: a DIO0 edge token. -/
  | edge
  /-- RXTMO: an RX-single timeout token. -/
  | rxtmo
deriving DecidableEq, Repr

/-- x[ORIGIN] (R27). -/
inductive Origin
  | host
  | echo (session : Word)
deriving DecidableEq, Repr

/-- x[PC] (R27): IDLE, or the current message with the number of its next atomic action, counted from 1 (log 9).
`failed` is the point where a transfer of the message has failed and the IoError step of R226 is still to come: its
response waits for room in RSPQ (R221, log 10). -/
inductive Pc
  | idle
  | run (m : Msg) (k : Nat)
  | failed (m : Msg)
deriving DecidableEq, Repr

/-- x[E_STATE] (R40). -/
inductive EchoState
  | idle
  | listening
  | echoing
  | waitingTxDone
deriving DecidableEq, Repr

/-- x[E_AWAIT] (R40). -/
inductive Await
  | none
  | recv
  | xmit
deriving DecidableEq, Repr

/-- The kinds of events (R86). -/
inductive EventKind
  | rxFrame
  | txDone
  | txError
deriving DecidableEq, Repr

/-- An event as the engine emits it (R86, R175). Its length is the number of its bytes. -/
structure Event where
  kind : EventKind
  status : Status
  echoOrigin : Bool
  rssi : Half
  snr : Byte
  bytes : List Byte
deriving DecidableEq, Repr

/-- A record of EVTQ (R35): an event with the SUBMASK of its emission. -/
structure EventRec where
  event : Event
  mask : Byte
deriving DecidableEq, Repr

/-- EVT_CUR when it is valid (R35): the latched record and the read index. -/
structure EvtCur where
  record : EventRec
  idx : Nat
deriving DecidableEq, Repr

/-- An entry of RSPQ (R35): the fields of the response word of R84. -/
structure Response where
  status : Status
  op : Byte
  value : Half
deriving DecidableEq, Repr

/-- An entry of EQ (R40). -/
structure EqEntry where
  kind : EventKind
  session : Word
  bytes : List Byte
deriving DecidableEq, Repr

/-- RPL, the reply slot of echo calls (R40). -/
structure Rpl where
  valid : Bool
  status : Status
  session : Word
deriving DecidableEq, Repr

/-- The output pins (R21, R106). -/
structure Pins where
  cs : PinState
  rst : PinState
  sclk : PinState
  mosi : PinState
deriving DecidableEq, Repr

/-- Engine control state (R27) and the countdown of `Wait` (R110). -/
structure Engine where
  pc : Pc
  origin : Origin
  handles : Bool
  connected : Bool
  mode : Mode
  waitCnt : BitVec 14
deriving DecidableEq, Repr

/-- Transmit state (R28): x[TXP], x[TXT], x[TX_POLLREQ], x[TX_EDGE]. -/
structure TxState where
  pending : Bool
  ticks : BitVec 13
  pollReq : Bool
  edge : Bool
deriving DecidableEq, Repr

/-- The engine's working registers (R29): x[W_IRQ], x[W_V], x[W_A], x[W_N], x[W_I], x[RXB], x[W_RSSI], x[W_SNR]. -/
structure Work where
  irq : Byte
  v : Byte
  a : Byte
  n : Byte
  i : BitVec 9
  rxb : List Byte
  rssi : Byte
  snr : Byte
deriving DecidableEq, Repr

/-- The configuration shadow (R30). -/
structure RadioCfg where
  freq : Word
  sf : BitVec 4
  bw : BitVec 4
  cr : BitVec 4
  txPwr : BitVec 5
  sync : Byte
  preamble : Half
  crcOn : Bool
  implicitHdr : Bool
deriving DecidableEq, Repr

/-- RX-single timeout state (R32): x[RXS_CNT], x[RXS_FIRED], x[RXTMO_Q]. -/
structure RxSingle where
  cnt : BitVec 17
  fired : Bool
  queued : Bool
deriving DecidableEq, Repr

/-- Subscriber state (R33): x[HOST_SUBS], x[ECHO_SUB]. -/
structure Subs where
  host : Byte
  echo : Bool
deriving DecidableEq, Repr

/-- DIO0 detector state (R44): the two stages of x[DIO0_S], x[DIO0_PREV], x[EDGE_Q]. -/
structure Dio where
  sync0 : Bool
  sync1 : Bool
  prev : Bool
  queued : Bool
deriving DecidableEq, Repr

/-- The host-written registers: x[CMD_ARG] (R37), IRQ_EN and STICKY (R26), and the model's own record of the data the
last bus read returned (log 16). -/
structure HostRegs where
  cmdArg : Word
  rspIe : Bool
  evtIe : Bool
  cmdOvf : Bool
  evtOvf : Bool
  echoEvtOvf : Bool
  rdata : Word
deriving DecidableEq, Repr

/-- Echo control registers (R39): x[E_RUN], x[E_SESSION], x[E_PREFIX], x[E_PLEN], x[E_DELAY]. -/
structure EchoCtl where
  run : Bool
  session : Word
  pfx : List Byte
  plen : Byte
  delay : Half
deriving DecidableEq, Repr

/-- Echo sequencer registers (R40). -/
structure EchoSeq where
  state : EchoState
  seen : Word
  rxc : Word
  txc : Word
  buf : List Byte
  len : BitVec 9
  await : Await
  callSess : Word
  armCnt : BitVec 11
  armFired : Bool
  echoCnt : BitVec 17
  echoFired : Bool
deriving DecidableEq, Repr

/-- The environment's part of the state, the model's own: the coming turns of the agents (log 2), the engine's
quantum (log 3), the scripts of the chip's answers (log 4) and of `spi_err_i` (log 5), the counters that index the
free values, and the number of resets (log 6). -/
structure Env where
  turns : List Config.Turn
  turnNo : Nat
  quantum : Nat
  miso : List Byte
  readNo : Nat
  spiErr : List Bool
  transferNo : Nat
  txEpoch : Nat
deriving DecidableEq, Repr

/-- A memory of cells: host byte addresses, strictly rising, each with the byte last written there. An address that
is not listed holds no written byte. -/
abbrev Memory := List Host.Cell

/-- The canonical form: addresses strictly rising, all of them in the TXBUF window 0x100..0x1FF (R38). A listed cell
holds a written byte, so no entry equals what an unlisted address holds, which is none. -/
def Memory.wf : Memory → Bool
  | [] => true
  | [c] => decide (0x100 ≤ c.1) && decide (c.1 < 0x200)
  | c :: d :: rest => decide (0x100 ≤ c.1) && decide (c.1 < d.1) && Memory.wf (d :: rest)

/-- Everything the spec gives the controller; INVENTORY.md lists every field with its rule. -/
structure State where
  /-- The parameters (R8); no step changes them (log 1). -/
  cfg : Config.Params
  /-- The output pins (R106). -/
  pins : Pins
  /-- The bus history (R62). -/
  bus : List BusEvent
  eng : Engine
  tx : TxState
  work : Work
  radio : RadioCfg
  rxs : RxSingle
  subs : Subs
  /-- INQ, head first (R34). -/
  inq : List Msg
  /-- RSPQ, head first (R35). -/
  rspq : List Response
  /-- EVTQ, head first (R35). -/
  evtq : List EventRec
  /-- EVT_CUR (R35). -/
  evtCur : Option EvtCur
  dio : Dio
  host : HostRegs
  /-- TXBUF (R38). -/
  txbuf : Memory
  ectl : EchoCtl
  eseq : EchoSeq
  rpl : Rpl
  /-- EQ, head first (R40). -/
  eq : List EqEntry
  env : Env
deriving DecidableEq, Repr

/-- Why the model stops. -/
inductive Fault
  /-- Raised by ECHO_START when the incremented x[E_SESSION] equals x[E_SEEN]: 2^32 starts that the sequencer never
  applied (93_implementation_defined.md U20, which asks for a fault). Safe: the model stops where the block goes on. -/
  | sessionAlias
  /-- Raised by the engine when x[PC] names a step that the current message's rule does not have; no step of the
  model leads there (log 9). Safe: the model stops. -/
  | badStepPointer
deriving DecidableEq, Repr

/-- Why the model gives an instruction no meaning. -/
inductive Refusal
  /-- Raised by `exec` for an instruction with no meaning yet, by its mnemonic; no arm uses it. Safe: nothing runs. -/
  | notModelled (mnemonic : String)
deriving DecidableEq, Repr

/-- What one atomic action of a message's steps does (R11, R12). -/
inductive Flow
  /-- The action is done; the next numbered step follows. -/
  | step (s : State)
  /-- The action is done; step `k` follows. -/
  | goto (k : Nat) (s : State)
  /-- The action is not enabled: a `Wait` that runs, the TX wait, or a Reply with RSPQ full. -/
  | hold
  /-- The action is done and was the message's last: x[PC] becomes IDLE. -/
  | done (s : State)
  /-- The action's transfer was made and failed (R104). -/
  | ioErr (s : State)
  /-- The model stops. -/
  | fault (r : Fault)
deriving Repr

/-- x[E_PREFIX] at reset (R39): "ECHO:", then zeros, PREFIX_MAX bytes in all. -/
def resetPrefix (prefixMax : Nat) : List Byte :=
  ([0x45, 0x43, 0x48, 0x4F, 0x3A] ++ List.replicate prefixMax 0).take prefixMax

/-- The configuration shadow at reset, which is also what BEGIN leaves but for FREQ_HZ (R30, R123, R240). -/
def resetRadio : RadioCfg where
  freq := 915000000
  sf := 7
  bw := 7
  cr := 5
  txPwr := 14
  sync := 0x34
  preamble := 8
  crcOn := true
  implicitHdr := false

/-- The state right after reset (R240), under the default parameters (R8). The registers R240 does not reset hold the
values of log 7 and log 8. -/
def State.reset : State where
  cfg := Config.Params.default
  pins := { cs := .released, rst := .released, sclk := .released, mosi := .released }
  bus := []
  eng := { pc := .idle, origin := .host, handles := false, connected := false, mode := .unknown, waitCnt := 0 }
  tx := { pending := false, ticks := 0, pollReq := false, edge := false }
  work := { irq := 0, v := 0, a := 0, n := 0, i := 0, rxb := List.replicate 255 0, rssi := 0, snr := 0 }
  radio := resetRadio
  rxs := { cnt := 0, fired := false, queued := false }
  subs := { host := 0, echo := false }
  inq := []
  rspq := []
  evtq := []
  evtCur := none
  dio := { sync0 := false, sync1 := false, prev := false, queued := false }
  host := { cmdArg := 0, rspIe := false, evtIe := false, cmdOvf := false, evtOvf := false, echoEvtOvf := false, rdata := 0 }
  txbuf := []
  ectl := { run := false, session := 0, pfx := resetPrefix 32, plen := 5, delay := 150 }
  eseq :=
    { state := .idle, seen := 0, rxc := 0, txc := 0, buf := List.replicate 255 0, len := 0, await := .none,
      callSess := 0, armCnt := 0, armFired := false, echoCnt := 0, echoFired := false }
  rpl := { valid := false, status := .ok, session := 0 }
  eq := []
  env :=
    { turns := [], turnNo := 0, quantum := 0, miso := [], readNo := 0, spiErr := [], transferNo := 0, txEpoch := 0 }

end Sys2Proof.Machine
end

