-- ==== Sys2Proof/Machine/Operands.lean ====
section
/-! DEFINITION. Operand ranges (30_encoding.md R90), the values the setters write (41_radio_config.md R124 to R132)
and the small bit-field helpers they use. -/

namespace Sys2Proof.Machine

/-- FREQ_OK (R90). -/
def freqOk (f : Nat) : Bool := decide (137000000 ≤ f) && decide (f ≤ 1020000000)

/-- The legal operands of a command (R90); a command with no checked operand is always legal. -/
def operandsLegal (p : Config.Params) : Instr → Bool
  | .begin f => freqOk f
  | .setFrequency f => freqOk f
  | .setSf sf => decide (6 ≤ sf) && decide (sf ≤ 12)
  | .setBw k => decide (k ≤ 9)
  | .setCr cr => decide (5 ≤ cr) && decide (cr ≤ 8)
  | .setTxPower d => decide (2 ≤ d) && decide (d ≤ 20)
  | .setSyncWord w => decide (w ≤ 255)
  | .transmit n => decide (1 ≤ n) && decide (n ≤ 255)
  | .receiveMode t => decide (t ≤ 65535)
  | .standby => true
  | .sleep => true
  | .hardwareReset => true
  | .disconnect => true
  | .getRssi => true
  | .getVersion => true
  | .subscribe _ => true
  | .unsubscribe _ => true
  | .echoStart lp _ _ plen => !lp || decide (plen ≤ p.prefixMax)
  | .echoStop => true

/-- Frf(f) (R124), in integers: round-to-nearest of f / (F_XOSC / 2^19). -/
def frf (f : Nat) : Nat := (f * 16384 + 500000) / 1000000

/-- Frf[23:16], the byte for REG_FRF_MSB (R65). -/
def frfMsb (f : Nat) : Byte := BitVec.ofNat 8 (frf f / 65536)

/-- Frf[15:8], the byte for REG_FRF_MID (R65). -/
def frfMid (f : Nat) : Byte := BitVec.ofNat 8 (frf f / 256)

/-- Frf[7:0], the byte for REG_FRF_LSB (R65). -/
def frfLsb (f : Nat) : Byte := BitVec.ofNat 8 (frf f)

/-- MODEBITS (R52) and the STATUS.MODE codes (R45), which are the same low three bits. -/
def modeCode : Mode → BitVec 3
  | .sleep => 0
  | .standby => 1
  | .tx => 3
  | .rxCont => 5
  | .rxSingle => 6
  | .unknown => 7

/-- The value a mode write puts into REG_OPMODE: 0x80 with MODEBITS (R52, R140). -/
def opModeByte (m : Mode) : Byte := 0x80 ||| (modeCode m).setWidth 8

/-- modem-config-2 with the spreading factor in its high nibble (R126). -/
def mc2WithSf (v : Byte) (sf : Nat) : Byte := (v &&& 0x0F) ||| (BitVec.ofNat 8 sf <<< 4)

/-- DETOPT(sf) (R127). -/
def detOpt (sf : Nat) : Byte := if sf = 6 then 0xC5 else 0xC3

/-- DETTHR(sf) (R127). -/
def detThr (sf : Nat) : Byte := if sf = 6 then 0x0C else 0x0A

/-- bw_bits = k << 4 (R128). -/
def bwBits (k : Nat) : Byte := BitVec.ofNat 8 k <<< 4

/-- modem-config-1 with the bandwidth in its high nibble (R129). -/
def mc1WithBw (v : Byte) (k : Nat) : Byte := (v &&& 0x0F) ||| bwBits k

/-- modem-config-1 with the coding rate in bits 3:1 (R130). -/
def mc1WithCr (v : Byte) (cr : Nat) : Byte := (v &&& 0xF1) ||| (BitVec.ofNat 8 (cr - 4) <<< 1)

/-- The PA-DAC value of a power (R131). -/
def paDacByte (p : Nat) : Byte := if p ≤ 17 then 0x84 else 0x87

/-- The OCP value of a power (R131). -/
def ocpByte (p : Nat) : Byte := if p ≤ 17 then 0x2B else 0x3F

/-- The PA-config value of a power (R131). -/
def paConfigByte (p : Nat) : Byte := 0x80 ||| BitVec.ofNat 8 (if p ≤ 17 then p - 2 else p - 5)

/-- zext(raw) − 157 as a 16-bit two's-complement value (R149, R174). -/
def rssiDbm (raw : Byte) : Half := raw.setWidth 16 - 157

/-- The SNR in quarter-dB, sext_8(raw) (R174). -/
def snrQuarterDb (raw : Byte) : Int := raw.toInt

/-- sat32(v + 1) (R206). -/
def satInc (v : Word) : Word := if v = 0xFFFFFFFF then v else v + 1

/-- Byte `k` (0 to 3) of a 32-bit word, little-endian (R64). -/
def wordByte (w : Word) (k : Nat) : Byte := w.extractLsb' (8 * k) 8

/-- Four bytes packed into a word, byte 0 in the low bits (R64). -/
def packWord (b0 b1 b2 b3 : Byte) : Word := b3 ++ b2 ++ b1 ++ b0

/-- A count as the 8-bit field of LEVELS or of an event header (R36, R86). -/
def countByte (n : Nat) : Byte := BitVec.ofNat 8 n

end Sys2Proof.Machine
end

