-- ==== Sys2Proof/Machine/Flags.lean ====
section
/-! DEFINITION. The controller's flags (10_state.md R42): the IRQ-flags bits of the chip (R53), STICKY and IRQ_EN
(R26), `irq_o` (60_exceptions.md R227), and the STATUS, LEVELS and SUBS views (R25, R33, R36). -/

namespace Sys2Proof.Machine

/-- RX_DONE (R53). -/
def irqRxDone : Byte := 0x40

/-- PAYLOAD_CRC_ERROR (R53). -/
def irqCrcErr : Byte := 0x20

/-- TX_DONE (R53). -/
def irqTxDone : Byte := 0x08

/-- The flag is set in an IRQ value. -/
def irqHas (v flag : Byte) : Bool := v &&& flag != 0

/-- The number of HCMD entries of INQ (R34, R36). -/
def hcmdCount (q : List Msg) : Nat :=
  q.countP fun m => match m with
    | .hcmd _ => true
    | _ => false

/-- CMD_FULL (R25): INQ holds CMDQ_DEPTH host commands. -/
def cmdFull (s : State) : Bool := hcmdCount s.inq == s.cfg.cmdqDepth

/-- `irq_o` (R227). -/
def irqOut (s : State) : Bool := (s.host.rspIe && !s.rspq.isEmpty) || (s.host.evtIe && !s.evtq.isEmpty)

/-- RX_ARMED (R25): MODE is RXCONT or RXSINGLE. -/
def rxArmed (s : State) : Bool := s.eng.mode == .rxCont || s.eng.mode == .rxSingle

/-- The code of x[E_STATE] in STATUS (R25). -/
def echoStateCode : EchoState → BitVec 2
  | .idle => 0
  | .listening => 1
  | .echoing => 2
  | .waitingTxDone => 3

/-- STATUS (R25). -/
def statusWord (s : State) : Word :=
  (0 : BitVec 16) ++ BitVec.ofBool (irqOut s) ++ BitVec.ofBool (!s.evtq.isEmpty) ++ BitVec.ofBool (!s.rspq.isEmpty) ++
  BitVec.ofBool (cmdFull s) ++ BitVec.ofBool (s.eseq.await != .none) ++ echoStateCode s.eseq.state ++
  BitVec.ofBool s.ectl.run ++ BitVec.ofBool (rxArmed s) ++ BitVec.ofBool s.tx.pending ++
  BitVec.ofBool (s.eng.pc != .idle) ++ modeCode s.eng.mode ++ BitVec.ofBool s.eng.handles ++
  BitVec.ofBool s.eng.connected

/-- IRQ_EN as it reads (R26). -/
def irqEnWord (s : State) : Word := (0 : BitVec 30) ++ BitVec.ofBool s.host.evtIe ++ BitVec.ofBool s.host.rspIe

/-- STICKY as it reads (R26). -/
def stickyWord (s : State) : Word :=
  (0 : BitVec 29) ++ BitVec.ofBool s.host.echoEvtOvf ++ BitVec.ofBool s.host.evtOvf ++ BitVec.ofBool s.host.cmdOvf

/-- A write of `d` to STICKY: a 1 clears its bit, a 0 leaves it (R26). -/
def stickyClear (d : Word) (h : HostRegs) : HostRegs :=
  { h with
    cmdOvf := h.cmdOvf && !d.getLsbD 0
    evtOvf := h.evtOvf && !d.getLsbD 1
    echoEvtOvf := h.echoEvtOvf && !d.getLsbD 2 }

/-- SUBS (R33). -/
def subsWord (s : State) : Word := (0 : BitVec 23) ++ BitVec.ofBool s.subs.echo ++ s.subs.host

/-- LEVELS (R36). -/
def levelsWord (s : State) : Word :=
  countByte s.eq.length ++ countByte s.evtq.length ++ countByte s.rspq.length ++ countByte (hcmdCount s.inq)

/-- The code of a status (R85). -/
def statusCode : Status → BitVec 4
  | .ok => 0
  | .notConnected => 1
  | .alreadyRunning => 2
  | .invalidChip => 3
  | .ioError => 4
  | .timeout => 5
  | .invalidParam => 6
  | .resourceBusy => 7

/-- The KIND code of an event (R86). -/
def kindCode : EventKind → BitVec 3
  | .rxFrame => 1
  | .txDone => 2
  | .txError => 3

/-- The response word (R84). -/
def responseWord (r : Response) : Word :=
  (1 : BitVec 1) ++ (0 : BitVec 3) ++ statusCode r.status ++ r.op ++ r.value

/-- EVT_HDR of a record (R86). -/
def eventHdrWord (r : EventRec) : Word :=
  (1 : BitVec 1) ++ kindCode r.event.kind ++ (0 : BitVec 3) ++ BitVec.ofBool r.event.echoOrigin ++ r.mask ++
  (0 : BitVec 4) ++ statusCode r.event.status ++ countByte r.event.bytes.length

/-- EVT_META (R87): RSSI and SNR of the latched RX_FRAME; 0 for TX events and when EVT_CUR is invalid. -/
def eventMetaWord (c : Option EvtCur) : Word :=
  match c with
  | none => 0
  | some cur =>
    match cur.record.event.kind with
    | .rxFrame => cur.record.event.rssi ++ (0 : BitVec 8) ++ cur.record.event.snr
    | .txDone => 0
    | .txError => 0

/-- CFG_RADIO (R30). -/
def cfgRadioWord (r : RadioCfg) : Word :=
  r.sync ++ (0 : BitVec 3) ++ r.txPwr ++ (0 : BitVec 4) ++ r.cr ++ r.bw ++ r.sf

/-- CFG_PKT (R30). -/
def cfgPktWord (r : RadioCfg) : Word :=
  (0 : BitVec 14) ++ BitVec.ofBool r.implicitHdr ++ BitVec.ofBool r.crcOn ++ r.preamble

/-- ECHO_CFG (R41). -/
def echoCfgWord (e : EchoCtl) : Word := (0 : BitVec 8) ++ e.plen ++ e.delay

end Sys2Proof.Machine
end

