-- ==== Sys2Proof/Machine/Ops.lean ====
section
/-! DEFINITION. The shared operations: TXBUF, pins, transfers (40_spi_gpio.md R100 to R106), OpMode
(42_radio_modes.md R140), Wait (R110), Reply, IoError (60_exceptions.md R221, R226), Emit and PostEQ (43_tx_rx.md
R175, 44_turnaround.md R197), the taking of a message (R115), and the engine's run through a message's steps.
The controller has no traps (R225): a reported error is `respond`, and `ioErrorEffect` is the one error that undoes
state. -/

namespace Sys2Proof.Machine

/-! ### TXBUF -/

/-- The byte last written to an address, if one was (R38). -/
def memFind : Memory → Nat → Option Byte
  | [], _ => none
  | (x, v) :: rest, a => if x = a then some v else memFind rest a

/-- A byte written to an address; the cells stay in rising order. -/
def memStore : Memory → Nat → Byte → Memory
  | [], a, b => [(a, b)]
  | (x, v) :: rest, a, b =>
    if a < x then (a, b) :: (x, v) :: rest
    else if a = x then (a, b) :: rest
    else (x, v) :: memStore rest a b

/-- The host offset of TXBUF byte `i` (R24, R38). -/
def txAddr (i : Nat) : Nat := 0x100 + i

/-- TxBuf(i) (R11, R38): the byte as it is now; a byte not written since reset is a free value (U1, log 6). -/
def txByte (s : State) (i : Nat) : Byte :=
  (memFind s.txbuf (txAddr i)).getD (Config.freeTxByte s.env.txEpoch i)

/-- A host write of a word to the TXBUF window at word address `a`: bytes `a` to `a + 3`, little-endian (R64). -/
def txStoreWord (m : Memory) (a : Nat) (d : Word) : Memory :=
  memStore (memStore (memStore (memStore m a (wordByte d 0)) (a + 1) (wordByte d 1)) (a + 2) (wordByte d 2))
    (a + 3) (wordByte d 3)

/-! ### The bus history and the pins -/

/-- An entry appended to the bus history (R62). -/
def record (e : BusEvent) (s : State) : State := { s with bus := s.bus ++ [e] }

/-- A pin set to a state (R106). -/
def setPin (p : Pin) (l : PinState) (s : State) : State :=
  match p with
  | .cs => { s with pins := { s.pins with cs := l } }
  | .reset => { s with pins := { s.pins with rst := l } }
  | .sclk => { s with pins := { s.pins with sclk := l } }
  | .mosi => { s with pins := { s.pins with mosi := l } }

/-- Drive(pin, level), outside a transfer (R106). -/
def drive (p : Pin) (b : Bool) (s : State) : State := record (.pin p (.driven b)) (setPin p (.driven b) s)

/-- Release(pin) (R106). -/
def release (p : Pin) (s : State) : State := record (.pin p .released) (setPin p .released s)

/-- OpenHandles (R105), one atomic action. -/
def openHandles (s : State) : State :=
  let s1 := drive .cs true (drive .reset false (drive .mosi false (drive .sclk false s)))
  { s1 with
    dio := { s1.dio with prev := s1.dio.sync1 }
    eng := { s1.eng with handles := true } }

/-- CloseHandles (R105), one atomic action. -/
def closeHandles (s : State) : State :=
  let s1 : State := { s with eng := { s.eng with handles := false } }
  release .sclk (release .mosi (release .reset (release .cs s1)))

/-- CloseHandles where the handles are open (R147, R226). -/
def closeIfOpen (s : State) : State := if s.eng.handles then closeHandles s else s

/-! ### The SPI frame -/

/-- The 16 bits a transfer shifts out on MOSI, first bit most significant (R63, R89); a pin event shifts nothing. -/
def mosiFrame : BusEvent → Option (BitVec 16)
  | .write a v => some ((1 : BitVec 1) ++ a ++ v)
  | .read a _ => some ((0 : BitVec 1) ++ a ++ (0 : BitVec 8))
  | .pin _ _ => none

/-- The levels of `cs_n_o`, `sclk_o`, `mosi_o` in one half of an SCLK cycle. -/
structure SpiSample where
  cs : Bool
  sclk : Bool
  mosi : Bool
deriving DecidableEq, Repr

/-- One SCLK cycle of mode 0: MOSI takes its bit while SCLK is low, and SCLK rises on it (R100). -/
def spiBit (b : Bool) : List SpiSample := [⟨false, false, b⟩, ⟨false, true, b⟩]

/-- The pins during one transfer of a frame: chip-select falls, 16 cycles, chip-select rises (R103, R106). -/
def spiWave (f : BitVec 16) : List SpiSample :=
  [⟨false, false, false⟩] ++ (List.range 16).flatMap (fun k => spiBit (f.getMsbD k)) ++
    [⟨false, false, false⟩, ⟨true, false, false⟩]

/-- The level of a pin's pad: driven, or the state of a released output (R106). -/
def padLevel (r : Config.ReleasedLevel) : PinState → Config.ReleasedLevel
  | .released => r
  | .driven true => .high
  | .driven false => .low

/-! ### Transfers -/

/-- `spi_err_i` at the end of the next transfer, where HAS_SPI_ERR connects it (R104): the script's value, or a free
one (log 5). -/
def spiErrNow (s : State) : Bool :=
  s.cfg.hasSpiErr && (s.env.spiErr[s.env.transferNo]?).getD (Config.freeSpiErr s.env.transferNo)

/-- The chip's answer to the next register read (R62): the script's value, or a free one (log 4). -/
def chipAnswer (s : State) : Byte := (s.env.miso[s.env.readNo]?).getD (Config.freeChipAnswer s.env.readNo)

/-- The counters that number the environment's inputs, after some transfers, of which some are reads. -/
def Env.advance (e : Env) (transfers reads : Nat) : Env :=
  { e with transferNo := e.transferNo + transfers, readNo := e.readNo + reads }

/-- MemWrite(a, 1, d) (R102): the frame is recorded; true where it failed (R104). -/
def memWrite (a : ChipAddr) (d : Byte) (s : State) : Bool × State :=
  (spiErrNow s, { s with bus := s.bus ++ [.write a d], env := s.env.advance 1 0 })

/-- MemRead(a, 1) (R101): the frame is recorded with the chip's answer; true where it failed (R104). -/
def memRead (a : ChipAddr) (s : State) : Bool × Byte × State :=
  (spiErrNow s, chipAnswer s, { s with bus := s.bus ++ [.read a (chipAnswer s)], env := s.env.advance 1 1 })

/-- What OpMode(m) changes beside its transfer (R140): x[MODE], and the RX-single timer for every other mode. -/
def setMode (m : Mode) (s : State) : State :=
  { s with
    eng := { s.eng with mode := m }
    rxs := if m = .rxSingle then s.rxs else { s.rxs with cnt := 0, fired := false } }

/-- The RX-single timer cancelled (R146, R147, R226). -/
def cancelRxSingle (s : State) : State := { s with rxs := { s.rxs with cnt := 0, fired := false } }

/-! ### Events -/

/-- The newest TX entry of EQ removed (R197). -/
def dropNewestTx : List EqEntry → List EqEntry
  | [] => []
  | e :: rest =>
    if rest.any (fun x => x.kind != .rxFrame) then e :: dropNewestTx rest
    else if e.kind != .rxFrame then rest
    else e :: dropNewestTx rest

/-- PostEQ(e, x[E_SESSION]) (R197). -/
def postEq (e : Event) (s : State) : State :=
  match e.kind with
  | .rxFrame =>
    if s.eq.length + 2 ≤ s.cfg.eqDepth then { s with eq := s.eq ++ [⟨.rxFrame, s.ectl.session, e.bytes⟩] }
    else { s with host := { s.host with echoEvtOvf := true } }
  | .txDone =>
    if s.eq.length < s.cfg.eqDepth then { s with eq := s.eq ++ [⟨.txDone, s.ectl.session, []⟩] }
    else { s with eq := dropNewestTx s.eq ++ [⟨.txDone, s.ectl.session, []⟩] }
  | .txError =>
    if s.eq.length < s.cfg.eqDepth then { s with eq := s.eq ++ [⟨.txError, s.ectl.session, []⟩] }
    else { s with eq := dropNewestTx s.eq ++ [⟨.txError, s.ectl.session, []⟩] }

/-- The host's copy of an event (R175). -/
def postEvt (e : Event) (s : State) : State :=
  if s.subs.host = 0 then s
  else if s.evtq.length < s.cfg.evtqDepth then { s with evtq := s.evtq ++ [⟨e, s.subs.host⟩] }
  else { s with host := { s.host with evtOvf := true } }

/-- Emit(e) (R175), one atomic step. -/
def emit (e : Event) (s : State) : State :=
  let s1 := postEvt e s
  if s1.subs.echo then postEq e s1 else s1

/-- ECHO_ORIGIN of a TX event (R86, R165). -/
def fromEcho (s : State) : Bool := s.eng.origin != .host

/-- A TX event (R165, R166, R167). -/
def txEvent (k : EventKind) (st : Status) (echoOrigin : Bool) : Event :=
  { kind := k, status := st, echoOrigin := echoOrigin, rssi := 0, snr := 0, bytes := [] }

/-! ### Replies -/

/-- A Reply can complete now (R221): an echo call's always, a host command's when RSPQ has room. -/
def canReply (s : State) : Bool :=
  match s.eng.origin with
  | .host => decide (s.rspq.length < s.cfg.rspqDepth)
  | .echo _ => true

/-- Where a Reply goes (R221, R203): RSPQ for the host, RPL for an echo call. -/
def respond (op : Byte) (st : Status) (value : Half) (s : State) : State :=
  match s.eng.origin with
  | .host => { s with rspq := s.rspq ++ [⟨st, op, value⟩] }
  | .echo sess => { s with rpl := ⟨true, st, sess⟩ }

/-- x[PC] moved (R27). -/
def setPc (p : Pc) (s : State) : State := { s with eng := { s.eng with pc := p } }

/-- IoError (R226), the whole atomic step. `op` is the command's opcode, or none for EDGE and RXTMO. -/
def ioErrorEffect (op : Option Byte) (s : State) : State :=
  let s1 := cancelRxSingle (closeIfOpen s)
  let s2 : State :=
    { s1 with
      eng := { s1.eng with pc := .idle, connected := false, mode := .unknown }
      tx := { s1.tx with pending := false } }
  match op with
  | none => s2
  | some o =>
    let s3 := respond o .ioError 0 s2
    if s.tx.pending then emit (txEvent .txError .ioError (fromEcho s)) s3 else s3

/-- The IoError step can be taken now: it needs room for its response (R221, R226). -/
def ioErrorReady (op : Option Byte) (s : State) : Bool := op.isNone || canReply s

/-- The IoError step at the failed transfer of message `m`: taken, or held at its response (R221, R226; log 10). -/
def ioErrorStep (op : Option Byte) (m : Msg) (s : State) : State :=
  if ioErrorReady op s then ioErrorEffect op s else setPc (.failed m) s

/-! ### Atomic actions -/

/-- One atomic action of a message's steps (R12). -/
abbrev Act := State → Flow

/-- A Reply with the updates that are atomic with it (R221): held while RSPQ is full. -/
def replyWith (op : Byte) (st : Status) (value : Half) (upd : State → State) : Act := fun s =>
  if canReply s then .done (respond op st value (upd s)) else .hold

/-- A check of a command (R222): where it fails, the command ends with the status and no other effect. -/
def need (ok : State → Bool) (op : Byte) (st : Status) : Act := fun s =>
  if ok s then .step s else replyWith op st 0 id s

/-- The connection check of R153. -/
def needConnected (op : Byte) : Act := need (fun s => s.eng.connected) op .notConnected

/-- A transfer's outcome: the next action, or IoError at this transfer (R104). -/
def afterTransfer (failed : Bool) (s : State) (upd : State → State) : Flow :=
  if failed then .ioErr s else .step (upd s)

/-- A register write; `upd` is what the rule names as atomic with it. -/
def writeAct (reg : Config.RegMap → ChipAddr) (val : State → Byte) (upd : State → State := id) : Act := fun s =>
  let r := memWrite (reg s.cfg.regmap) (val s) s
  afterTransfer r.1 r.2 upd

/-- A register read into a working register. -/
def readAct (reg : Config.RegMap → ChipAddr) (store : Byte → State → State) : Act := fun s =>
  let r := memRead (reg s.cfg.regmap) s
  afterTransfer r.1 r.2.2 (store r.2.1)

/-- OpMode(m) (R140); `upd` is what the rule names as atomic with it. -/
def opModeAct (m : Mode) (upd : State → State := id) : Act :=
  writeAct (fun r => r.opMode) (fun _ => opModeByte m) (fun s => upd (setMode m s))

/-- An action on the controller's own state. -/
def setAct (f : State → State) : Act := fun s => .step (f s)

/-- x[WAIT_CNT] loaded for `Wait(ms)` (R110). -/
def loadWait (ms : Nat) (s : State) : State := { s with eng := { s.eng with waitCnt := BitVec.ofNat 14 (ms + 1) } }

/-- The hold of `Wait` (R110). -/
def holdAct : Act := fun s => if s.eng.waitCnt = 0 then .step s else .hold

/-- Wait(ms) (R110): load, then hold. -/
def waitActs (ms : Nat) : List Act := [setAct (loadWait ms), holdAct]

/-- x[W_V] <- v. -/
def setV (v : Byte) (s : State) : State := { s with work := { s.work with v := v } }

/-- x[W_I] <- i. -/
def setI (i : BitVec 9) (s : State) : State := { s with work := { s.work with i := i } }

/-! ### The engine's run -/

/-- Step number `k` of a message's steps, counted from 1 (R27, log 9). -/
def stepAt (prog : List Act) : Nat → Option Act
  | 0 => none
  | k + 1 => prog[k]?

/-- Up to `n` atomic actions of message `m`, from step `k` on; x[PC] is stored where the run stops. The run ends
early when an action is not enabled (R110, R164, R221) or the message is complete (R115). -/
def runActs (op : Option Byte) (prog : List Act) (m : Msg) :
    Nat → Nat → State → Host.Outcome State Fault Refusal
  | 0, k, s => .next (setPc (.run m k) s)
  | n + 1, k, s =>
    match stepAt prog k with
    | none => .fault .badStepPointer
    | some a =>
      match a s with
      | .step s' => runActs op prog m n (k + 1) s'
      | .goto j s' => runActs op prog m n j s'
      | .hold => .next (setPc (.run m k) s)
      | .done s' => .next (setPc .idle s')
      | .ioErr s' => .next (ioErrorStep op m s')
      | .fault r => .fault r

/-- The engine takes a message it has removed from the head of INQ (R115), in a step that does no transfer. -/
def take (m : Msg) (rest : List Msg) (s : State) : State :=
  let s1 := setPc (.run m 1) { s with inq := rest }
  match m with
  | .hcmd _ => { s1 with eng := { s1.eng with origin := .host } }
  | .ecall _ _ sess => { s1 with eng := { s1.eng with origin := .echo sess } }
  | .edge => { s1 with dio := { s1.dio with queued := false } }
  | .rxtmo => { s1 with rxs := { s1.rxs with queued := false } }

/-- The engine's turn on a message with these steps: an idle engine takes the head of INQ first (R115), then up to
`env.quantum` atomic actions follow (log 3). -/
def runMessage (op : Option Byte) (prog : List Act) (s : State) : Host.Outcome State Fault Refusal :=
  match s.eng.pc with
  | .idle =>
    match s.inq with
    | [] => .next s
    | m :: rest => runActs op prog m s.env.quantum 1 (take m rest s)
  | .run m k => runActs op prog m s.env.quantum k s
  | .failed m => if s.env.quantum = 0 then .next s else .next (ioErrorStep op m s)

/-- The message the engine is executing, or would take next (R115). -/
def currentMsg (s : State) : Option Msg :=
  match s.eng.pc with
  | .idle => s.inq.head?
  | .run m _ => some m
  | .failed m => some m

/-! ### Block reset -/

/-- `rst_ni` asserted (R240, R241): every reset register takes its reset value. The parameters and the environment's
part go on; the registers R240 does not reset keep what they hold; TXBUF's content is unspecified again (log 19). -/
def blockReset (s : State) : State :=
  { State.reset with
    cfg := s.cfg
    eng := { State.reset.eng with origin := s.eng.origin }
    work := s.work
    host := { State.reset.host with rdata := s.host.rdata }
    ectl := { State.reset.ectl with pfx := resetPrefix s.cfg.prefixMax }
    eseq := { State.reset.eseq with buf := s.eseq.buf, len := s.eseq.len, callSess := s.eseq.callSess }
    env := { s.env with txEpoch := s.env.txEpoch + 1 } }

end Sys2Proof.Machine
end

