-- ==== Sys2Proof/Machine/Csr.lean ====
section
/-! DEFINITION. The host's CSR accesses, the agent HOST (10_state.md R24; 20_memory.md R60, R64, R66, R67, R69). -/

namespace Sys2Proof.Machine

/-- The offset an access acts on: bits [1:0] of the address are ignored (R67). -/
def csrOffset (a : BusAddr) : Nat := (a &&& 0x3FC).toNat

/-- ECHO_PREFIX[k] (R41): bytes 4k to 4k+3 of x[E_PREFIX]; a byte past PREFIX_MAX reads 0 (log 15). -/
def echoPrefixWord (pfx : List Byte) (k : Nat) : Word :=
  packWord (pfx.getD (4 * k) 0) (pfx.getD (4 * k + 1) 0) (pfx.getD (4 * k + 2) 0) (pfx.getD (4 * k + 3) 0)

/-- RSP (R69): the head of RSPQ with VALID, or 0. -/
def rspWord (s : State) : Word :=
  match s.rspq with
  | [] => 0
  | r :: _ => responseWord r

/-- EVT_HDR (R69): the header of the head of EVTQ, or 0. -/
def evtHdrWord (s : State) : Word :=
  match s.evtq with
  | [] => 0
  | e :: _ => eventHdrWord e

/-- EVT_DATA (R69, R88): the next payload byte of EVT_CUR with VALID, or 0. -/
def evtDataWord (s : State) : Word :=
  match s.evtCur with
  | none => 0
  | some c =>
    match c.record.event.bytes[c.idx]? with
    | none => 0
    | some b => (0 : BitVec 23) ++ (1 : BitVec 1) ++ b

/-- The word a bus read returns (R24): WO and unlisted offsets read 0. -/
def csrValue (s : State) (off : Nat) : Word :=
  match off with
  | 0x000 => 0xD2D11276
  | 0x004 => statusWord s
  | 0x008 => irqEnWord s
  | 0x00C => stickyWord s
  | 0x018 => rspWord s
  | 0x01C => evtHdrWord s
  | 0x020 => eventMetaWord s.evtCur
  | 0x024 => evtDataWord s
  | 0x028 => s.radio.freq
  | 0x02C => cfgRadioWord s.radio
  | 0x030 => cfgPktWord s.radio
  | 0x034 => echoCfgWord s.ectl
  | 0x038 => s.eseq.rxc
  | 0x03C => s.eseq.txc
  | 0x040 => subsWord s
  | 0x044 => levelsWord s
  | 0x080 => echoPrefixWord s.ectl.pfx 0
  | 0x084 => echoPrefixWord s.ectl.pfx 1
  | 0x088 => echoPrefixWord s.ectl.pfx 2
  | 0x08C => echoPrefixWord s.ectl.pfx 3
  | 0x090 => echoPrefixWord s.ectl.pfx 4
  | 0x094 => echoPrefixWord s.ectl.pfx 5
  | 0x098 => echoPrefixWord s.ectl.pfx 6
  | 0x09C => echoPrefixWord s.ectl.pfx 7
  | _ => 0

/-- EVT_HDR's side effect (R69): the next record is latched, or EVT_CUR becomes invalid. -/
def popEvent (s : State) : State :=
  match s.evtq with
  | [] => { s with evtCur := none }
  | e :: rest => { s with evtq := rest, evtCur := some ⟨e, 0⟩ }

/-- EVT_DATA's side effect (R69): the read index moves past a byte that was there. -/
def popEventByte (s : State) : State :=
  match s.evtCur with
  | none => s
  | some c => if c.idx < c.record.event.bytes.length then { s with evtCur := some { c with idx := c.idx + 1 } } else s

/-- The side effect of a bus read (R69): RSP, EVT_HDR and EVT_DATA pop; every other read has none. -/
def csrReadEffect (off : Nat) (s : State) : State :=
  match off with
  | 0x018 => { s with rspq := s.rspq.tail }
  | 0x01C => popEvent s
  | 0x024 => popEventByte s
  | _ => s

/-- A host bus read (R24, R67, R69); the data returned is kept in `host.rdata` (log 16). -/
def hostRead (a : BusAddr) (s : State) : State :=
  let s1 := csrReadEffect (csrOffset a) s
  { s1 with host := { s1.host with rdata := csrValue s (csrOffset a) } }

/-- A write to CMD_OP (R66): the word of d and x[CMD_ARG] is pushed, or dropped with CMD_OVF. -/
def pushCommand (d : Word) (s : State) : State :=
  if hcmdCount s.inq < s.cfg.cmdqDepth then { s with inq := s.inq ++ [.hcmd (d ++ s.host.cmdArg)] }
  else { s with host := { s.host with cmdOvf := true } }

/-- A host bus write (R24, R64, R66, R67): RO and unlisted offsets ignore it. -/
def hostWrite (a : BusAddr) (d : Word) (s : State) : State :=
  let off := csrOffset a
  if 0x100 ≤ off ∧ off < 0x200 then { s with txbuf := txStoreWord s.txbuf off d }
  else
    match off with
    | 0x008 => { s with host := { s.host with rspIe := d.getLsbD 0, evtIe := d.getLsbD 1 } }
    | 0x00C => { s with host := stickyClear d s.host }
    | 0x010 => { s with host := { s.host with cmdArg := d } }
    | 0x014 => pushCommand d s
    | _ => s

end Sys2Proof.Machine
end

