-- ==== Sys2Proof/Machine/Echo.lean ====
section
/-! DEFINITION. The echo sequencer, the agent ECHO (44_turnaround.md R190 to R208). Each action is one atomic step. -/

namespace Sys2Proof.Machine

/-- Load(ARM, D) (R205). -/
def loadArm (ms : Nat) (e : EchoSeq) : EchoSeq := { e with armCnt := BitVec.ofNat 11 (ms + 1), armFired := false }

/-- Load(ECHO, D) (R205). -/
def loadEcho (ms : Nat) (e : EchoSeq) : EchoSeq := { e with echoCnt := BitVec.ofNat 17 (ms + 1), echoFired := false }

/-- Apply START (R193). -/
def applyStart (s : State) : State :=
  let e := loadArm 100 s.eseq
  { s with eseq := { e with seen := s.ectl.session, state := .listening, echoCnt := 0, echoFired := false } }

/-- Apply STOP (R194). -/
def applyStop (s : State) : State := { s with eseq := { s.eseq with state := .idle } }

/-- The echo payload, at most 255 bytes of x[E_PREFIX][0..p-1] ‖ d, over what x[E_BUF] held (R208). -/
def echoBytes (c : EchoCtl) (d old : List Byte) : List Byte :=
  let p := c.plen.toNat
  let n := min (p + d.length) 255
  (List.range n).map (fun i => if i < p then c.pfx.getD i 0 else d.getD (i - p) 0) ++ old.drop n

/-- BuildEcho (R208). -/
def buildEcho (c : EchoCtl) (d : List Byte) (e : EchoSeq) : EchoSeq :=
  { e with len := BitVec.ofNat 9 (c.plen.toNat + d.length), buf := echoBytes c d e.buf }

/-- An RX_FRAME entry of the current session (R198). -/
def onRxFrame (d : List Byte) (s : State) : State :=
  if s.eseq.state = .listening then
    let e := loadEcho s.ectl.delay.toNat (buildEcho s.ectl d s.eseq)
    { s with eseq := { e with rxc := satInc s.eseq.rxc, state := .echoing } }
  else s

/-- A TX_DONE or TX_ERROR entry of the current session (R204). -/
def onTxEvent (s : State) : State :=
  if s.eseq.state = .waitingTxDone then { s with eseq := { loadArm 0 s.eseq with state := .listening } } else s

/-- The head of EQ taken and handled, unless the session filter discards it (R196). -/
def handleEqHead (s : State) : State :=
  match s.eq with
  | [] => s
  | x :: rest =>
    let s1 : State := { s with eq := rest }
    if s.eseq.state = .idle ∨ x.session ≠ s.eseq.seen then s1
    else
      match x.kind with
      | .rxFrame => onRxFrame x.bytes s1
      | .txDone => onTxEvent s1
      | .txError => onTxEvent s1

/-- ArmRx expiry (R199). -/
def armExpiry (s : State) : State :=
  let s1 : State := { s with eseq := { s.eseq with armFired := false } }
  if s.eseq.state = .listening then
    { s1 with
      inq := s1.inq ++ [.ecall .receiveMode 0 s.eseq.seen]
      eseq := { s1.eseq with callSess := s.eseq.seen, await := .recv } }
  else s1

/-- Echo expiry (R200). -/
def echoExpiry (s : State) : State :=
  let s1 : State := { s with eseq := { s.eseq with echoFired := false } }
  if s.eseq.state = .echoing then
    { s1 with
      inq := s1.inq ++ [.ecall .transmit (s.eseq.len.setWidth 32) s.eseq.seen]
      eseq := { s1.eseq with txc := satInc s.eseq.txc, callSess := s.eseq.seen, await := .xmit } }
  else s1

/-- The reply of a receive call (R201). -/
def onRecvReply (st : Status) (e : EchoSeq) : EchoSeq := if st = .ok then e else loadArm 1000 e

/-- The reply of a transmit call (R202). -/
def onXmitReply (st : Status) (e : EchoSeq) : EchoSeq :=
  if st = .ok then { e with state := .waitingTxDone } else { loadArm 0 e with state := .listening }

/-- The reply consumed (R203): handled by R201 or R202 if its session still runs, else discarded. -/
def consumeReply (s : State) : State :=
  let e : EchoSeq := { s.eseq with await := .none }
  let s1 : State := { s with rpl := { s.rpl with valid := false }, eseq := e }
  if s.ectl.run && s.ectl.session == s.eseq.callSess then
    match s.eseq.await with
    | .none => s1
    | .recv => { s1 with eseq := onRecvReply s.rpl.status e }
    | .xmit => { s1 with eseq := onXmitReply s.rpl.status e }
  else s1

/-- The last three actions of R190, of which any enabled one may be taken: the one the turn prefers if it is enabled,
else the first enabled of ArmRx, Echo, EQ (log 22). -/
def echoOpen (pick : Config.EchoPick) (s : State) : State :=
  let first : State :=
    if s.eseq.armFired then armExpiry s else if s.eseq.echoFired then echoExpiry s else handleEqHead s
  match pick with
  | .arm => first
  | .echo => if s.eseq.echoFired then echoExpiry s else first
  | .event => if s.eq.isEmpty then first else handleEqHead s

/-- One step of the echo sequencer (R190), in the priority of R195. -/
def echoStep (pick : Config.EchoPick) (s : State) : State :=
  if s.eseq.await ≠ .none then if s.rpl.valid then consumeReply s else s
  else if s.ectl.run && s.eseq.seen != s.ectl.session then applyStart s
  else if !s.ectl.run && s.eseq.state != .idle then applyStop s
  else echoOpen pick s

end Sys2Proof.Machine
end

