-- ==== Sys2Proof/Machine/Edge.lean ====
section
/-! DEFINITION. The DIO0 edge detector, the agent EDGE (40_spi_gpio.md R107 to R109). -/

namespace Sys2Proof.Machine

/-- Where a detected rising edge goes (R107): the TX wait, a new token, or the token already queued. -/
def routeEdge (s : State) : State :=
  if s.tx.pending then { s with tx := { s.tx with edge := true } }
  else if s.dio.queued then s
  else { s with inq := s.inq ++ [.edge], dio := { s.dio with queued := true } }

/-- The environment action `env edge` (R107): one rising edge, detected while the handles are open. DESIGN CHOICE: it
leaves x[DIO0_S] and x[DIO0_PREV] as they are, also between `clk` turns (log 29). -/
def edgeTurn (s : State) : State := if s.eng.handles then routeEdge s else s

/-- One rising edge of `clk_i` with a level on `dio0_i` (R107): the synchronizer shifts, its output `s` is compared
with x[DIO0_PREV], and x[DIO0_PREV] takes it, detected or not (log 12). -/
def clkTurn (level : Bool) (s : State) : State :=
  let sample := s.dio.sync0
  let s1 : State := { s with dio := { s.dio with sync0 := level, sync1 := sample, prev := sample } }
  if sample && !s.dio.prev && s.eng.handles then routeEdge s1 else s1

end Sys2Proof.Machine
end

