-- ==== Sys2Proof/Machine/Setters.lean ====
section
/-! DEFINITION. The six parameter setters (41_radio_config.md R125, R126, R129 to R132, R134). A body is a setter
from its step 3 on, without its reply; BEGIN's defaults run the same bodies (R133). -/

namespace Sys2Proof.Machine

/-- The body of SET_FREQUENCY (R125 steps 3, 4; R65). -/
def frfActs (f : Nat) : List Act :=
  [writeAct (fun r => r.frfMsb) (fun _ => frfMsb f), writeAct (fun r => r.frfMid) (fun _ => frfMid f),
   writeAct (fun r => r.frfLsb) (fun _ => frfLsb f)]

/-- The body of SET_SF (R126 steps 3 to 6). -/
def sfBody (sf : Nat) : List Act :=
  [opModeAct .standby, readAct (fun r => r.modemConfig2) setV,
   writeAct (fun r => r.modemConfig2) (fun s => mc2WithSf s.work.v sf),
   writeAct (fun r => r.detectionOptimize) (fun _ => detOpt sf),
   writeAct (fun r => r.detectionThreshold) (fun _ => detThr sf)] ++
  (if sf = 6 then
    [readAct (fun r => r.modemConfig1) setV, writeAct (fun r => r.modemConfig1) (fun s => s.work.v ||| 0x01)]
   else [])

/-- The body of SET_BW (R129 steps 3, 4). -/
def bwBody (k : Nat) : List Act :=
  [opModeAct .standby, readAct (fun r => r.modemConfig1) setV,
   writeAct (fun r => r.modemConfig1) (fun s => mc1WithBw s.work.v k)]

/-- The body of SET_CR (R130 steps 3, 4). -/
def crBody (cr : Nat) : List Act :=
  [opModeAct .standby, readAct (fun r => r.modemConfig1) setV,
   writeAct (fun r => r.modemConfig1) (fun s => mc1WithCr s.work.v cr)]

/-- The body of SET_TX_POWER (R131 steps 3, 4): PA-DAC, OCP, PA-config. -/
def powerBody (p : Nat) : List Act :=
  [opModeAct .standby, writeAct (fun r => r.paDac) (fun _ => paDacByte p),
   writeAct (fun r => r.ocp) (fun _ => ocpByte p), writeAct (fun r => r.paConfig) (fun _ => paConfigByte p)]

/-- The body of SET_SYNC_WORD (R132 steps 3, 4). -/
def syncBody (w : Nat) : List Act :=
  [opModeAct .standby, writeAct (fun r => r.syncWord) (fun _ => BitVec.ofNat 8 w)]

/-- A setter (R134): the checks of R153 in order, the body, and the reply with the shadow's update (R30). -/
def setterProg (op : Byte) (legal : Bool) (body : List Act) (shadow : RadioCfg → RadioCfg) : List Act :=
  [needConnected op, need (fun _ => legal) op .invalidParam] ++ body ++
  [replyWith op .ok 0 (fun s => { s with radio := shadow s.radio })]

/-- SET_FREQUENCY (R125). -/
def execSetFrequency (f : Nat) (s : State) : Host.Outcome State Fault Refusal :=
  runMessage (some 0x02)
    (setterProg 0x02 (operandsLegal s.cfg (.setFrequency f)) (opModeAct .standby :: frfActs f)
      (fun r => { r with freq := BitVec.ofNat 32 f })) s

/-- What SET_SF leaves in the shadow (R126 step 7). -/
def shadowSf (sf : Nat) (r : RadioCfg) : RadioCfg :=
  { r with sf := BitVec.ofNat 4 sf, implicitHdr := if sf = 6 then true else r.implicitHdr }

/-- SET_SF (R126). -/
def execSetSf (sf : Nat) (s : State) : Host.Outcome State Fault Refusal :=
  runMessage (some 0x03) (setterProg 0x03 (operandsLegal s.cfg (.setSf sf)) (sfBody sf) (shadowSf sf)) s

/-- SET_BW (R129). -/
def execSetBw (k : Nat) (s : State) : Host.Outcome State Fault Refusal :=
  runMessage (some 0x04)
    (setterProg 0x04 (operandsLegal s.cfg (.setBw k)) (bwBody k) (fun r => { r with bw := BitVec.ofNat 4 k })) s

/-- SET_CR (R130). -/
def execSetCr (cr : Nat) (s : State) : Host.Outcome State Fault Refusal :=
  runMessage (some 0x05)
    (setterProg 0x05 (operandsLegal s.cfg (.setCr cr)) (crBody cr) (fun r => { r with cr := BitVec.ofNat 4 cr })) s

/-- SET_TX_POWER (R131). -/
def execSetTxPower (p : Nat) (s : State) : Host.Outcome State Fault Refusal :=
  runMessage (some 0x06)
    (setterProg 0x06 (operandsLegal s.cfg (.setTxPower p)) (powerBody p)
      (fun r => { r with txPwr := BitVec.ofNat 5 p })) s

/-- SET_SYNC_WORD (R132). -/
def execSetSyncWord (w : Nat) (s : State) : Host.Outcome State Fault Refusal :=
  runMessage (some 0x07)
    (setterProg 0x07 (operandsLegal s.cfg (.setSyncWord w)) (syncBody w)
      (fun r => { r with sync := BitVec.ofNat 8 w })) s

end Sys2Proof.Machine
end

