-- ==== Sys2Proof/Machine/Init.lean ====
section
/-! DEFINITION. BEGIN (41_radio_config.md R120 to R123, R133). -/

namespace Sys2Proof.Machine

/-- The version check and the InvalidChip unwind (R121, R122), one atomic step. -/
def versionAct : Act := fun s =>
  if s.work.v = 0x12 then .step s
  else replyWith 0x01 .invalidChip (s.work.v.setWidth 16) (fun t =>
    let u := closeHandles t
    { u with eng := { u.eng with mode := .unknown } }) s

/-- BEGIN steps 1 to 8 (R120): checks, handles, reset pulse, version, Sleep. -/
def beginStart (f : Nat) : List Act :=
  [need (fun s => !s.eng.connected) 0x01 .resourceBusy, need (fun _ => freqOk f) 0x01 .invalidParam,
   setAct openHandles, setAct (drive .reset false)] ++ waitActs 10 ++
  [setAct (drive .reset true)] ++ waitActs 10 ++
  [readAct (fun r => r.version) setV, versionAct, opModeAct .sleep] ++ waitActs 10

/-- ApplyDefaults (R133): power 14, SF 7, BW 125 kHz, CR 4/5, CRC on, explicit header, preamble 8, sync 0x34. -/
def applyDefaults : List Act :=
  powerBody 14 ++ sfBody 7 ++ bwBody 7 ++ crBody 5 ++
  [readAct (fun r => r.modemConfig2) setV, writeAct (fun r => r.modemConfig2) (fun s => s.work.v ||| 0x04),
   readAct (fun r => r.modemConfig1) setV, writeAct (fun r => r.modemConfig1) (fun s => s.work.v &&& 0xFE),
   writeAct (fun r => r.preambleMsb) (fun _ => 0x00), writeAct (fun r => r.preambleLsb) (fun _ => 0x08)] ++
  syncBody 0x34

/-- BEGIN steps 9 to 14 (R120). -/
def beginConfig (f : Nat) : List Act :=
  frfActs f ++
  [writeAct (fun r => r.fifoTxBase) (fun _ => 0x00), writeAct (fun r => r.fifoRxBase) (fun _ => 0x00),
   readAct (fun r => r.lna) setV, writeAct (fun r => r.lna) (fun s => s.work.v ||| 0x03),
   writeAct (fun r => r.modemConfig3) (fun _ => 0x04)] ++
  applyDefaults ++ [opModeAct .standby]

/-- BEGIN completion (R123). -/
def beginDone (f : Nat) (s : State) : State :=
  { s with
    eng := { s.eng with connected := true }
    radio := { resetRadio with freq := BitVec.ofNat 32 f } }

/-- BEGIN (R120). -/
def execBegin (f : Nat) (s : State) : Host.Outcome State Fault Refusal :=
  runMessage (some 0x01) (beginStart f ++ beginConfig f ++ [replyWith 0x01 .ok 0 (beginDone f)]) s

end Sys2Proof.Machine
end

