-- ==== Sys2Proof/Machine/Modes.lean ====
section
/-! DEFINITION. Mode commands, reset and disconnect, queries, subscription, and the RX-single timeout
(42_radio_modes.md R141 to R151). -/

namespace Sys2Proof.Machine

/-- STANDBY (R141). -/
def execStandby (s : State) : Host.Outcome State Fault Refusal :=
  runMessage (some 0x0A) [needConnected 0x0A, opModeAct .standby, replyWith 0x0A .ok 0 id] s

/-- SLEEP (R142). -/
def execSleep (s : State) : Host.Outcome State Fault Refusal :=
  runMessage (some 0x0B) [needConnected 0x0B, opModeAct .sleep, replyWith 0x0B .ok 0 id] s

/-- The load of the RX-single timer that is atomic with the RXSINGLE write (R143 step 7). -/
def loadRxSingle (t : Nat) (s : State) : State :=
  { s with rxs := { s.rxs with cnt := BitVec.ofNat 17 (t + 1), fired := false } }

/-- The last mode write of RECEIVE_MODE (R143 step 7). -/
def armAct (t : Nat) : Act := if t = 0 then opModeAct .rxCont else opModeAct .rxSingle (loadRxSingle t)

/-- RECEIVE_MODE (R143). -/
def execReceiveMode (t : Nat) (s : State) : Host.Outcome State Fault Refusal :=
  runMessage (some 0x09)
    [needConnected 0x09, need (fun s' => operandsLegal s'.cfg (.receiveMode t)) 0x09 .invalidParam,
     opModeAct .standby, writeAct (fun r => r.fifoAddrPtr) (fun _ => 0x00),
     writeAct (fun r => r.irqFlags) (fun _ => 0xFF), writeAct (fun r => r.dioMapping1) (fun _ => 0x00),
     armAct t, replyWith 0x09 .ok 0 id] s

/-- What HARDWARE_RESET leaves besides the pulse (R146 step 4). -/
def resetDone (s : State) : State :=
  let s1 := cancelRxSingle s
  { s1 with eng := { s1.eng with mode := .unknown } }

/-- HARDWARE_RESET (R146). -/
def execHardwareReset (s : State) : Host.Outcome State Fault Refusal :=
  runMessage (some 0x0C)
    ([needConnected 0x0C, setAct (drive .reset false)] ++ waitActs 10 ++
     [setAct (drive .reset true)] ++ waitActs 10 ++ [replyWith 0x0C .ok 0 resetDone]) s

/-- What DISCONNECT does in its one atomic step, besides the reply (R147). -/
def disconnected (s : State) : State :=
  let s1 := cancelRxSingle (closeIfOpen s)
  { s1 with eng := { s1.eng with connected := false, mode := .unknown } }

/-- DISCONNECT (R147). -/
def execDisconnect (s : State) : Host.Outcome State Fault Refusal :=
  runMessage (some 0x0D) [replyWith 0x0D .ok 0 disconnected] s

/-- GET_VERSION (R148). -/
def execGetVersion (s : State) : Host.Outcome State Fault Refusal :=
  runMessage (some 0x0F)
    [needConnected 0x0F, readAct (fun r => r.version) setV,
     fun t => replyWith 0x0F .ok (t.work.v.setWidth 16) id t] s

/-- GET_RSSI (R149). -/
def execGetRssi (s : State) : Host.Outcome State Fault Refusal :=
  runMessage (some 0x0E)
    [needConnected 0x0E, readAct (fun r => r.rssi) setV,
     fun t => replyWith 0x0E .ok (rssiDbm t.work.v) id t] s

/-- x[HOST_SUBS] with bit `id` set or cleared (R150, R151). -/
def setSub (id : Nat) (on : Bool) (s : State) : State :=
  let bit : Byte := (1 : Byte) <<< id
  { s with subs := { s.subs with host := if on then s.subs.host ||| bit else s.subs.host &&& ~~~bit } }

/-- SUBSCRIBE (R150). -/
def execSubscribe (id : Nat) (s : State) : Host.Outcome State Fault Refusal :=
  runMessage (some 0x10) [replyWith 0x10 .ok 0 (setSub id true)] s

/-- UNSUBSCRIBE (R151). -/
def execUnsubscribe (id : Nat) (s : State) : Host.Outcome State Fault Refusal :=
  runMessage (some 0x11) [replyWith 0x11 .ok 0 (setSub id false)] s

/-- A reserved opcode (R83): INVALID_PARAM and no other effect. -/
def reservedCommand (op : Byte) (s : State) : Host.Outcome State Fault Refusal :=
  runMessage (some op) [replyWith op .invalidParam 0 id] s

/-- RXTMO handling (R144): stale unless x[RXS_FIRED]; then Standby, no response and no event. -/
def rxTimeoutAct : Act := fun s =>
  if s.rxs.fired then
    let r := memWrite s.cfg.regmap.opMode (opModeByte .standby) { s with rxs := { s.rxs with fired := false } }
    if r.1 then .ioErr r.2 else .done (setMode .standby r.2)
  else .done s

/-- The engine's turn on an RXTMO token (R144). -/
def rxTimeout (s : State) : Host.Outcome State Fault Refusal := runMessage none [rxTimeoutAct] s

end Sys2Proof.Machine
end

