-- ==== Sys2Proof/Machine/Transmit.lean ====
section
/-! DEFINITION. TRANSMIT (43_tx_rx.md R160 to R168). The steps are numbered as `transmitProg` lists them. -/

namespace Sys2Proof.Machine

/-- PB(i) (R161): TxBuf(i) for a host command, byte `i` of x[E_BUF] for an echo call. -/
def payloadByte (s : State) (i : Nat) : Byte :=
  match s.eng.origin with
  | .host => txByte s i
  | .echo _ => s.eseq.buf.getD i 0

/-- Step 5 of R160, one payload byte: PB(i) is read in the action that writes it (R162). -/
def fifoAct (n : Nat) : Act := fun s =>
  let i := s.work.i
  let r := memWrite s.cfg.regmap.fifo (payloadByte s i.toNat) s
  let s1 := setI (i + 1) r.2
  if r.1 then .ioErr r.2 else if i.toNat + 1 < n then .goto 5 s1 else .step s1

/-- Wait entry (R163), atomic with the TX-mode write. -/
def enterTxWait (s : State) : State :=
  { s with tx := { pending := true, ticks := 0, pollReq := false, edge := false } }

/-- The TX wait (R164): W1 holds for a trigger; W2 takes it and reads the IRQ flags; W3 decides. -/
def txPollAct : Act := fun s =>
  if s.tx.pollReq || s.tx.edge then
    let s1 : State := { s with tx := { s.tx with pollReq := false, edge := false } }
    let r := memRead s.cfg.regmap.irqFlags s1
    let s2 : State := { r.2.2 with work := { r.2.2.work with irq := r.2.1 } }
    if r.1 then .ioErr r.2.2
    else if irqHas r.2.1 irqTxDone then .goto 10 s2
    else if 5000 ≤ s.tx.ticks.toNat then .goto 13 s2
    else .goto 9 s2
  else .hold

/-- x[TXP] <- 0, atomic with the Standby write that ends the wait (R165, R166). -/
def leaveTxWait (s : State) : State := { s with tx := { s.tx with pending := false } }

/-- The reply of a TRANSMIT with its TX event (R165, R166), one atomic step. -/
def txReplyAct (st : Status) (k : EventKind) : Act := fun s =>
  replyWith 0x08 st 0 (emit (txEvent k st (fromEcho s))) s

/-- TRANSMIT (R160): 1, 2 checks; 3 to 8 setup; 9 the wait; 10 to 12 TX done (R165); 13, 14 timeout (R166). -/
def transmitProg (n : Nat) : List Act :=
  [needConnected 0x08,
   need (fun s => operandsLegal s.cfg (.transmit n)) 0x08 .invalidParam,
   opModeAct .standby,
   writeAct (fun r => r.fifoAddrPtr) (fun _ => 0x00) (setI 0),
   fifoAct n,
   writeAct (fun r => r.payloadLength) (fun _ => BitVec.ofNat 8 n),
   writeAct (fun r => r.irqFlags) (fun _ => 0xFF),
   opModeAct .tx enterTxWait,
   txPollAct,
   writeAct (fun r => r.irqFlags) (fun _ => irqTxDone),
   opModeAct .standby leaveTxWait,
   txReplyAct .ok .txDone,
   opModeAct .standby leaveTxWait,
   txReplyAct .timeout .txError]

/-- TRANSMIT (R160). -/
def execTransmit (n : Nat) (s : State) : Host.Outcome State Fault Refusal :=
  runMessage (some 0x08) (transmitProg n) s

end Sys2Proof.Machine
end

