-- ==== Sys2Proof/Machine/Turnaround.lean ====
section
/-! DEFINITION. ECHO_START and ECHO_STOP, the engine's side of the turnaround sequencer (44_turnaround.md R191,
R192). -/

namespace Sys2Proof.Machine

/-- Step 3 of R191 begins: to the copy, or past it where there is nothing to copy. -/
def prefixStartAct (lp : Bool) (plen : Nat) : Act := fun s =>
  if lp && decide (0 < plen) then .step (setI 0 s) else .goto 5 s

/-- Step 3 of R191, one prefix byte, one atomic action. -/
def prefixCopyAct (plen : Nat) : Act := fun s =>
  let i := s.work.i
  let s1 := setI (i + 1) { s with ectl := { s.ectl with pfx := s.ectl.pfx.set i.toNat (txByte s i.toNat) } }
  if i.toNat + 1 < plen then .goto 4 s1 else .step s1

/-- x[E_PLEN] <- plen where LOAD_PREFIX is set (R191 step 3). -/
def loadPlen (lp : Bool) (plen : Nat) (s : State) : State :=
  if lp then { s with ectl := { s.ectl with plen := BitVec.ofNat 8 plen } } else s

/-- x[E_DELAY] <- delay where LOAD_DELAY is set (R191 step 4). -/
def loadDelay (ld : Bool) (delay : Nat) (s : State) : State :=
  if ld then { s with ectl := { s.ectl with delay := BitVec.ofNat 16 delay } } else s

/-- What the last step of ECHO_START does besides the reply (R191 step 5). -/
def echoStarted (s : State) : State :=
  { s with
    ectl := { s.ectl with session := s.ectl.session + 1, run := true }
    subs := { s.subs with echo := true } }

/-- Step 5 of R191; a new session equal to x[E_SEEN] is the fault of U20 (log 14). -/
def echoStartAct : Act := fun s =>
  if canReply s && decide (s.ectl.session + 1 = s.eseq.seen) then .fault .sessionAlias
  else replyWith 0x12 .ok 0 echoStarted s

/-- ECHO_START (R191): 1, 2 checks; 3, 4 the prefix copy; 5 its length; 6 the delay; 7 the start and reply. -/
def echoStartProg (lp ld : Bool) (delay plen : Nat) : List Act :=
  [need (fun s => !s.ectl.run) 0x12 .alreadyRunning,
   need (fun s => operandsLegal s.cfg (.echoStart lp ld delay plen)) 0x12 .invalidParam,
   prefixStartAct lp plen,
   prefixCopyAct plen,
   setAct (loadPlen lp plen),
   setAct (loadDelay ld delay),
   echoStartAct]

/-- ECHO_START (R191). -/
def execEchoStart (lp ld : Bool) (delay plen : Nat) (s : State) : Host.Outcome State Fault Refusal :=
  runMessage (some 0x12) (echoStartProg lp ld delay plen) s

/-- What ECHO_STOP does besides the reply (R192). -/
def echoStopped (s : State) : State :=
  if s.ectl.run then
    { s with
      ectl := { s.ectl with run := false }
      subs := { s.subs with echo := false } }
  else s

/-- ECHO_STOP (R192). -/
def execEchoStop (s : State) : Host.Outcome State Fault Refusal :=
  runMessage (some 0x13) [replyWith 0x13 .ok 0 echoStopped] s

end Sys2Proof.Machine
end

