-- ==== Sys2Proof/Machine/Dispatch.lean ====
section
/-! DEFINITION. The meaning of every command, one arm per constructor of `Sys2Proof.Instr` (30_encoding.md R82). -/

namespace Sys2Proof.Machine

def exec (i : Instr) (s : State) : Host.Outcome State Fault Refusal :=
  match i with
  | .begin f => Sys2Proof.Machine.execBegin f s
  | .setFrequency f => Sys2Proof.Machine.execSetFrequency f s
  | .setSf sf => Sys2Proof.Machine.execSetSf sf s
  | .setBw k => Sys2Proof.Machine.execSetBw k s
  | .setCr cr => Sys2Proof.Machine.execSetCr cr s
  | .setTxPower p => Sys2Proof.Machine.execSetTxPower p s
  | .setSyncWord w => Sys2Proof.Machine.execSetSyncWord w s
  | .transmit n => Sys2Proof.Machine.execTransmit n s
  | .receiveMode t => Sys2Proof.Machine.execReceiveMode t s
  | .standby => Sys2Proof.Machine.execStandby s
  | .sleep => Sys2Proof.Machine.execSleep s
  | .hardwareReset => Sys2Proof.Machine.execHardwareReset s
  | .disconnect => Sys2Proof.Machine.execDisconnect s
  | .getRssi => Sys2Proof.Machine.execGetRssi s
  | .getVersion => Sys2Proof.Machine.execGetVersion s
  | .subscribe id => Sys2Proof.Machine.execSubscribe id s
  | .unsubscribe id => Sys2Proof.Machine.execUnsubscribe id s
  | .echoStart lp ld delay plen => Sys2Proof.Machine.execEchoStart lp ld delay plen s
  | .echoStop => Sys2Proof.Machine.execEchoStop s

end Sys2Proof.Machine
end

