-- ==== Sys2Proof/Machine/Receive.lean ====
section
/-! DEFINITION. DIO0 dispatch and frame extraction (43_tx_rx.md R170 to R179). The steps are numbered as
`dispatchProg` lists them. -/

namespace Sys2Proof.Machine

/-- E1 (R170, R178): a token taken while disconnected is discarded. -/
def edgeConnectedAct : Act := fun s => if s.eng.connected then .step s else .done s

/-- x[W_IRQ] <- v. -/
def setIrq (v : Byte) (s : State) : State := { s with work := { s.work with irq := v } }

/-- E3 (R170): to the CRC drop (4), the frame extraction (5) or the spurious clear (15), by the bits read. -/
def edgeBranchAct : Act := fun s =>
  if irqHas s.work.irq irqRxDone then
    if irqHas s.work.irq irqCrcErr then .goto 4 s else .goto 5 s
  else .goto 15 s

/-- C1 (R171): both flags cleared, then the end of RxDone handling. -/
def crcDropAct : Act := fun s =>
  let r := memWrite s.cfg.regmap.irqFlags (irqRxDone ||| irqCrcErr) s
  if r.1 then .ioErr r.2 else .goto 14 r.2

/-- X4 (R172, R177): a zero-length RxDone goes to its clear (13). -/
def frameLengthAct : Act := fun s => if s.work.n = 0 then .goto 13 s else .step (setI 0 s)

/-- X5 (R172), one received byte. -/
def rxFifoAct : Act := fun s =>
  let r := memRead s.cfg.regmap.fifo s
  let i := s.work.i
  let s1 := setI (i + 1) { r.2.2 with work := { r.2.2.work with rxb := r.2.2.work.rxb.set i.toNat r.2.1 } }
  if r.1 then .ioErr r.2.2 else if i.toNat + 1 < s.work.n.toNat then .goto 9 s1 else .step s1

/-- The RX_FRAME event of the working registers (R172 step X8, R174). -/
def rxEvent (s : State) : Event :=
  { kind := .rxFrame, status := .ok, echoOrigin := false, rssi := rssiDbm s.work.rssi, snr := s.work.snr,
    bytes := s.work.rxb.take s.work.n.toNat }

/-- The end of RxDone handling (R176): an RX-single window ends in Standby. -/
def rxEndAct : Act := fun s =>
  if s.eng.mode = .rxSingle then
    let r := memWrite s.cfg.regmap.opMode (opModeByte .standby) s
    if r.1 then .ioErr r.2 else .done (setMode .standby r.2)
  else .done s

/-- The spurious clear (R173): the bits read are written back, if any. -/
def spuriousAct : Act := fun s =>
  if s.work.irq = 0 then .done s
  else
    let r := memWrite s.cfg.regmap.irqFlags s.work.irq s
    if r.1 then .ioErr r.2 else .done r.2

/-- The steps of a DIO0 dispatch: 1 E1; 2 E2; 3 E3; 4 C1; 5 to 7 X1 to X3; 8 X4; 9 X5; 10, 11 X6, X7; 12 X8; 13 X9
and Z1; 14 R176; 15 S1 (R170 to R177). -/
def dispatchProg : List Act :=
  [edgeConnectedAct,
   readAct (fun r => r.irqFlags) setIrq,
   edgeBranchAct,
   crcDropAct,
   readAct (fun r => r.fifoRxCurrent) (fun v s => { s with work := { s.work with a := v } }),
   writeAct (fun r => r.fifoAddrPtr) (fun s => s.work.a),
   readAct (fun r => r.rxNbBytes) (fun v s => { s with work := { s.work with n := v } }),
   frameLengthAct,
   rxFifoAct,
   readAct (fun r => r.pktRssi) (fun v s => { s with work := { s.work with rssi := v } }),
   readAct (fun r => r.pktSnr) (fun v s => { s with work := { s.work with snr := v } }),
   setAct (fun s => emit (rxEvent s) s),
   writeAct (fun r => r.irqFlags) (fun _ => irqRxDone),
   rxEndAct,
   spuriousAct]

/-- The engine's turn on an EDGE token (R170). -/
def dioDispatch (s : State) : Host.Outcome State Fault Refusal := runMessage none dispatchProg s

end Sys2Proof.Machine
end

