-- ==== Sys2Proof/Machine/Engine.lean ====
section
/-! DEFINITION. The engine's message loop, the agent ENG (40_spi_gpio.md R115): the message it is executing, or the
head of INQ, is run by its kind. -/

namespace Sys2Proof.Machine

/-- The engine's turn on a message (R115): a command word is decoded and its instruction executed, a reserved opcode
is answered (R83), an echo call has the meaning of the command of the same OP (R93), and the tokens are handled. -/
def runMsg (m : Msg) (s : State) : Host.Outcome State Fault Refusal :=
  match m with
  | .hcmd w =>
    match decode w with
    | .ok i => exec i s
    | .error (.reservedOpcode op) => reservedCommand op s
  | .ecall .receiveMode arg _ => exec (.receiveMode arg.toNat) s
  | .ecall .transmit arg _ => exec (.transmit arg.toNat) s
  | .edge => dioDispatch s
  | .rxtmo => rxTimeout s

/-- The engine's turn (R115): with nothing to execute and INQ empty it does nothing. -/
def engineTurn (s : State) : Host.Outcome State Fault Refusal :=
  match currentMsg s with
  | none => .next s
  | some m => runMsg m s

end Sys2Proof.Machine
end

