-- ==== Sys2Proof/Machine/Timer.lean ====
section
/-! DEFINITION. The time base, the agent TIMER (40_spi_gpio.md R110 to R113). -/

namespace Sys2Proof.Machine

/-- A countdown after a tick: decremented if it runs (R110). -/
def countDown {w : Nat} (c : BitVec w) : BitVec w := if c = 0 then c else c - 1

/-- A countdown reaches 0 in this tick (R110). -/
def expires {w : Nat} (c : BitVec w) : Bool := c == 1

/-- x[WAIT_CNT] after a tick (R110). -/
def tickWait (s : State) : State := { s with eng := { s.eng with waitCnt := countDown s.eng.waitCnt } }

/-- The RX-single timer after a tick (R113). -/
def tickRxSingle (s : State) : State :=
  let s1 : State := { s with rxs := { s.rxs with cnt := countDown s.rxs.cnt } }
  if expires s.rxs.cnt then
    let s2 : State := { s1 with rxs := { s1.rxs with fired := true, queued := true } }
    if s.rxs.queued then s2 else { s2 with inq := s2.inq ++ [.rxtmo] }
  else s1

/-- The echo timers after a tick (R112). -/
def tickEcho (s : State) : State :=
  { s with
    eseq := { s.eseq with
      armCnt := countDown s.eseq.armCnt
      armFired := s.eseq.armFired || expires s.eseq.armCnt
      echoCnt := countDown s.eseq.echoCnt
      echoFired := s.eseq.echoFired || expires s.eseq.echoCnt } }

/-- min(x[TXT] + 1, 8191) (R111). -/
def nextTicks (t : BitVec 13) : BitVec 13 := if t = 8191 then t else t + 1

/-- The TX wait's count after a tick (R111): a poll is asked for at every tenth. -/
def tickTx (s : State) : State :=
  if s.tx.pending then
    let t := nextTicks s.tx.ticks
    { s with tx := { s.tx with ticks := t, pollReq := s.tx.pollReq || decide (t.toNat % 10 = 0) } }
  else s

/-- One TIMER step: every countdown and the TX count, in one step (R110). -/
def timerTick (s : State) : State := tickTx (tickEcho (tickRxSingle (tickWait s)))

end Sys2Proof.Machine
end

