-- ==== Sys2Proof/Machine/Step.lean ====
section
/-! DEFINITION. One step of the controller: one turn of one agent (00_scope.md R12, 10_state.md R20). -/

namespace Sys2Proof.Machine

/-- What a turn does (R20). -/
def runTurn (t : Config.Turn) (s : State) : Host.Outcome State Fault Refusal :=
  match t with
  | .eng n => engineTurn { s with env := { s.env with quantum := n } }
  | .tick => .next (timerTick s)
  | .echo pick => .next (echoStep pick s)
  | .edge => .next (edgeTurn s)
  | .clk level => .next (clkTurn level s)
  | .hostWrite a d => .next (hostWrite a d s)
  | .hostRead a => .next (hostRead a s)
  | .reset => .next (blockReset s)

/-- The next turn: the oldest of the state's list, or a free one where the list is empty (D49, log 2). -/
def nextTurn (s : State) : Config.Turn :=
  match s.env.turns with
  | t :: _ => t
  | [] => Config.freeTurn s.env.turnNo

/-- The state with that turn taken off the environment's part. -/
def dropTurn (s : State) : State :=
  match s.env.turns with
  | _ :: ts => { s with env := { s.env with turns := ts } }
  | [] => { s with env := { s.env with turnNo := s.env.turnNo + 1 } }

/-- One step: the next turn is taken. -/
def step (s : State) : Host.Outcome State Fault Refusal := runTurn (nextTurn s) (dropTurn s)

/-- A command word where the engine takes its next message from: the head of INQ, with the engine idle (R115) and its
turn next (log 17). -/
def State.withFetchWord (s : State) (nbits w : Nat) : State :=
  { s with
    inq := .hcmd (BitVec.ofNat 64 (w % 2 ^ nbits)) :: s.inq
    eng := { s.eng with pc := .idle }
    env := { s.env with turns := .eng 1024 :: s.env.turns } }

end Sys2Proof.Machine
end

