-- ==== Sys2Proof/Safety.lean ====
section
/-! DEFINITION. The terms statements are made in: what a message stands for, the environment's coming inputs, and the
invariants the spec states or derives (10_state.md R27, R28, R30, R34; 42_radio_modes.md R144; 44_turnaround.md R195,
R197, R207). Every invariant is decidable on a given state. -/

namespace Sys2Proof.Safety

open Sys2Proof.Machine

/-! ### Messages -/

/-- The instruction a message asks for (R93, R115); a reserved opcode and the tokens have none. -/
def msgInstr : Msg → Option Instr
  | .hcmd w =>
    match decode w with
    | .ok i => some i
    | .error _ => none
  | .ecall .receiveMode arg _ => some (.receiveMode arg.toNat)
  | .ecall .transmit arg _ => some (.transmit arg.toNat)
  | .edge => none
  | .rxtmo => none

/-- The opcode an IoError of the message is answered with; a token has no answer (R226). -/
def msgOpcode : Msg → Option Byte
  | .hcmd w => some (opField w)
  | .ecall .receiveMode _ _ => some 0x09
  | .ecall .transmit _ _ => some 0x08
  | .edge => none
  | .rxtmo => none

/-- The commands that need a connection (R153). -/
def needsChip : Instr → Bool
  | .begin _ => false
  | .setFrequency _ => true
  | .setSf _ => true
  | .setBw _ => true
  | .setCr _ => true
  | .setTxPower _ => true
  | .setSyncWord _ => true
  | .transmit _ => true
  | .receiveMode _ => true
  | .standby => true
  | .sleep => true
  | .hardwareReset => true
  | .disconnect => false
  | .getRssi => true
  | .getVersion => true
  | .subscribe _ => false
  | .unsubscribe _ => false
  | .echoStart _ _ _ _ => false
  | .echoStop => false

/-- The message is a BEGIN. -/
def isBegin (m : Msg) : Bool :=
  match msgInstr m with
  | some (.begin _) => true
  | _ => false

/-- The message is a TRANSMIT, of the host or of the echo sequencer. -/
def isTransmit (m : Msg) : Bool :=
  match msgInstr m with
  | some (.transmit _) => true
  | _ => false

/-- The message is an echo call. -/
def isCall : Msg → Bool
  | .ecall _ _ _ => true
  | .hcmd _ => false
  | .edge => false
  | .rxtmo => false

/-- The number of the last step of a command's rule, as its program lists them. -/
def lastStepOf : Instr → Nat
  | .begin _ => 47
  | .setFrequency _ => 7
  | .setSf sf => if sf = 6 then 10 else 8
  | .setBw _ => 6
  | .setCr _ => 6
  | .setTxPower _ => 7
  | .setSyncWord _ => 5
  | .transmit _ => 14
  | .receiveMode _ => 8
  | .standby => 3
  | .sleep => 3
  | .hardwareReset => 8
  | .disconnect => 1
  | .getRssi => 3
  | .getVersion => 3
  | .subscribe _ => 1
  | .unsubscribe _ => 1
  | .echoStart _ _ _ _ => 7
  | .echoStop => 1

/-- The number of the last step of a message. -/
def lastStep (m : Msg) : Nat :=
  match m with
  | .edge => 15
  | _ =>
    match msgInstr m with
    | some i => lastStepOf i
    | none => 1

/-! ### The environment's coming inputs -/

/-- The chip's answer to the `j`-th register read from now on (R62). -/
def answer (s : State) (j : Nat) : Byte :=
  (s.env.miso[s.env.readNo + j]?).getD (Config.freeChipAnswer (s.env.readNo + j))

/-- None of the next `n` transfers fails (R104). -/
def noSpiErr (s : State) (n : Nat) : Prop :=
  ∀ j, j < n →
    (s.cfg.hasSpiErr && (s.env.spiErr[s.env.transferNo + j]?).getD (Config.freeSpiErr (s.env.transferNo + j))) = false

/-- The state with `spi_err_i` not connected, so that no transfer fails (R104). -/
def unfailing (s : State) : State := { s with cfg := { s.cfg with hasSpiErr := false } }

/-- The TX wait's two triggers cleared, as a poll does in one step with its read (R164 step W2). -/
def clearTriggers (s : State) : State := { s with tx := { s.tx with pollReq := false, edge := false } }

/-- An entry of the bus history is a transfer (R62). -/
def isTransfer : BusEvent → Bool
  | .read _ _ => true
  | .write _ _ => true
  | .pin _ _ => false

/-- An entry of the bus history is a register read. -/
def isRead : BusEvent → Bool
  | .read _ _ => true
  | .write _ _ => false
  | .pin _ _ => false

/-- The state after some entries of the bus history, none of which failed, with nothing else changed. -/
def afterBus (s : State) (l : List BusEvent) : State :=
  { s with bus := s.bus ++ l, env := s.env.advance (l.countP isTransfer) (l.countP isRead) }

/-! ### Invariants -/

/-- Queues, buffers and memory keep their bounds and forms (R34, R35, R38 to R40, R197; MEMORY's canonical form). -/
abbrev StorageOk (s : State) : Prop :=
  s.cfg.legal = true ∧ Memory.wf s.txbuf = true ∧
  hcmdCount s.inq ≤ s.cfg.cmdqDepth ∧ s.rspq.length ≤ s.cfg.rspqDepth ∧ s.evtq.length ≤ s.cfg.evtqDepth ∧
  s.eq.length ≤ s.cfg.eqDepth ∧
  (s.eq.length = s.cfg.eqDepth → ∃ e ∈ s.eq, e.kind ≠ .rxFrame) ∧
  (∀ r ∈ s.evtq, r.mask ≠ 0) ∧
  s.ectl.pfx.length = s.cfg.prefixMax ∧ s.work.rxb.length = 255 ∧ s.eseq.buf.length = 255

/-- The pins are what R105, R106 give them: all released with the handles closed; with the handles open, driven, with
`cs_n_o` high and `sclk_o`, `mosi_o` low between transfers. -/
abbrev PinsOk (s : State) : Prop :=
  if s.eng.handles = true then
    s.pins.cs = .driven true ∧ s.pins.sclk = .driven false ∧ s.pins.mosi = .driven false ∧ s.pins.rst ≠ .released
  else
    s.pins = { cs := .released, rst := .released, sclk := .released, mosi := .released }

/-- Where a running message stands, the connection is what its passed steps found or made it (R120, R153, R170):
outside BEGIN the handles are open exactly while connected; BEGIN past its first check is not connected and past
OpenHandles has the handles open; a command that needs the chip, past that check, and a dispatch past E1 are
connected. -/
def pcLinkOk (s : State) : Bool :=
  let same := s.eng.handles == s.eng.connected
  match s.eng.pc with
  | .idle => same
  | .failed m => isBegin m || same
  | .run .edge k => same && (decide (k < 2) || s.eng.connected)
  | .run m k =>
    match msgInstr m with
    | none => same
    | some (.begin _) => (decide (3 < k) || same) && (decide (k < 2) || !s.eng.connected) && (decide (k < 4) || s.eng.handles)
    | some i => same && (!needsChip i || decide (k < 2) || s.eng.connected)

/-- `connected` implies open handles (R27); the mode is known only with the handles open; an RX-single timer that runs
or has fired means a connection in RXSINGLE (R144). -/
abbrev LinkOk (s : State) : Prop :=
  (s.eng.connected = true → s.eng.handles = true) ∧
  (s.eng.mode ≠ .unknown → s.eng.handles = true) ∧
  (s.rxs.fired = true ∨ s.rxs.cnt ≠ 0 → s.eng.connected = true ∧ s.eng.mode = .rxSingle) ∧
  PinsOk s ∧ pcLinkOk s = true

/-- The steps of TRANSMIT at which x[TXP] is 1: the wait and the transfers that end it (R163 to R166). -/
def txWaitStep (k : Nat) : Bool := k == 9 || k == 10 || k == 11 || k == 13

/-- x[TXP] = 1 exactly in the wait of a TRANSMIT (R163); after a failed transfer it may still be 1, of a TRANSMIT. -/
def txPcOk (s : State) : Bool :=
  match s.eng.pc with
  | .idle => !s.tx.pending
  | .failed m => !s.tx.pending || isTransmit m
  | .run m k => s.tx.pending == (isTransmit m && txWaitStep k)

/-- x[TXP] = 1 ⇔ x[MODE] = TX (R28), and x[TXP] = 1 only in the wait of a TRANSMIT (R28, R163). -/
abbrev TxOk (s : State) : Prop :=
  (s.tx.pending = true ↔ s.eng.mode = .tx) ∧ txPcOk s = true

/-- The message being executed, if any. -/
def runningMsg (s : State) : Option Msg :=
  match s.eng.pc with
  | .idle => none
  | .run m _ => some m
  | .failed m => some m

/-- The message being executed is an echo call. -/
def callRunning (s : State) : Bool := (runningMsg s).any isCall

/-- x[ORIGIN] is the origin of the command being executed (R27, R115). -/
def originOk (s : State) : Bool :=
  match runningMsg s with
  | none => true
  | some (.hcmd _) => s.eng.origin == .host
  | some (.ecall _ _ sess) => s.eng.origin == .echo sess
  | some .edge => true
  | some .rxtmo => true

/-- INQ holds an EDGE token exactly while x[EDGE_Q] = 1 and an RXTMO token exactly while x[RXTMO_Q] = 1, never two
(R32, R34, R107, R113); exactly one echo call is in INQ, being executed, or answered in RPL while x[E_AWAIT] ≠ NONE,
and none otherwise (R207). -/
abbrev TokensOk (s : State) : Prop :=
  s.inq.count .edge = (if s.dio.queued then 1 else 0) ∧
  s.inq.count .rxtmo = (if s.rxs.queued then 1 else 0) ∧
  s.inq.countP isCall + (if callRunning s then 1 else 0) + (if s.rpl.valid then 1 else 0)
    = (if s.eseq.await = .none then 0 else 1) ∧
  originOk s = true

/-- No control change is pending at the sequencer (R195): START and STOP are both applied. -/
def noControlPending (s : State) : Bool :=
  !(s.ectl.run && s.eseq.seen != s.ectl.session) && !(!s.ectl.run && s.eseq.state != .idle)

/-- The sequencer's session is the running one. -/
def sessionRuns (s : State) : Bool := s.ectl.run && s.eseq.seen == s.ectl.session

/-- The sequencer's invariants 1, 2 and 5 of R207 and point (3) of R195. -/
abbrev EchoOk (s : State) : Prop :=
  s.ectl.run = s.subs.echo ∧
  (s.eseq.await = .recv → s.eseq.state = .listening) ∧
  (s.eseq.await = .xmit → s.eseq.state = .echoing) ∧
  (s.eseq.await ≠ .none → s.eseq.callSess = s.eseq.seen) ∧
  (noControlPending s = true →
    ((s.eseq.state = .idle ↔ s.ectl.run = false) ∧ (s.eseq.state ≠ .idle → s.eseq.seen = s.ectl.session))) ∧
  s.eseq.txc ≤ s.eseq.rxc ∧
  (s.eseq.state = .echoing → s.eseq.await = .none → sessionRuns s = true →
    s.eseq.txc < s.eseq.rxc ∨ s.eseq.rxc = 0xFFFFFFFF)

/-- The sequencer has an enabled action (R190). -/
def echoEnabled (s : State) : Bool :=
  if s.eseq.await = .none then
    !noControlPending s || s.eseq.armFired || s.eseq.echoFired || !s.eq.isEmpty
  else s.rpl.valid

/-- The controller is quiescent (R251). -/
def quiescent (s : State) : Bool :=
  s.eng.pc == .idle && s.inq.isEmpty && !echoEnabled s && s.eng.waitCnt == 0 && s.rxs.cnt == 0 &&
  s.eseq.armCnt == 0 && s.eseq.echoCnt == 0 && !s.tx.pending

/-- The call that is outstanding is the one x[E_AWAIT] waits for, in the session of x[E_CALLSESS] (R199, R200). -/
def callMatches (s : State) (m : Msg) : Bool :=
  match m with
  | .ecall .receiveMode _ sess => s.eseq.await == .recv && sess == s.eseq.callSess
  | .ecall .transmit _ sess => s.eseq.await == .xmit && sess == s.eseq.callSess
  | .hcmd _ => true
  | .edge => true
  | .rxtmo => true

/-- EQ holds a TX event of the sequencer's session. -/
abbrev HasTxEvent (s : State) : Prop := ∃ e ∈ s.eq, e.kind ≠ .rxFrame ∧ e.session = s.eseq.seen

/-- Invariant 6 of R207: in WaitingTxDone, unless stopped or restarted, a TX event of the session is in EQ; so it is
when a transmit call's OK reply is waiting to be consumed. -/
abbrev WaitEndsOk (s : State) : Prop :=
  (∀ m ∈ s.inq, callMatches s m = true) ∧
  (runningMsg s).all (callMatches s) = true ∧
  (s.eseq.state = .waitingTxDone → sessionRuns s = true → HasTxEvent s) ∧
  (s.eseq.await = .xmit → s.rpl.valid = true → s.rpl.status = .ok → sessionRuns s = true → HasTxEvent s)

/-- A command past its checks has a legal operand (R222). -/
def operandsChecked (s : State) : Bool :=
  match s.eng.pc with
  | .idle => true
  | .failed _ => true
  | .run m k =>
    match msgInstr m with
    | none => true
    | some i => decide (k < 3) || operandsLegal s.cfg i

/-- The shadow holds legal values (R30), SF 6 only with an implicit header; a running command past its checks has a
legal operand. -/
abbrev ShadowOk (s : State) : Prop :=
  freqOk s.radio.freq.toNat = true ∧ 6 ≤ s.radio.sf.toNat ∧ s.radio.sf.toNat ≤ 12 ∧ s.radio.bw.toNat ≤ 9 ∧
  5 ≤ s.radio.cr.toNat ∧ s.radio.cr.toNat ≤ 8 ∧ 2 ≤ s.radio.txPwr.toNat ∧ s.radio.txPwr.toNat ≤ 20 ∧
  s.radio.preamble = 8 ∧ s.radio.crcOn = true ∧ (s.radio.sf = 6 → s.radio.implicitHdr = true) ∧
  operandsChecked s = true

/-- x[PC] names a step of the message's rule (R27). -/
def pcOk (s : State) : Bool :=
  match s.eng.pc with
  | .idle => true
  | .failed _ => true
  | .run m k => decide (1 ≤ k) && decide (k ≤ lastStep m)

/-- Two states agree but for the engine's working registers (R29). -/
abbrev SameButWork (s t : State) : Prop := { s with work := t.work } = t

/-! ### Answers -/

/-- A command answered: the reply is where its origin wants it and x[PC] is IDLE (R221). -/
def answered (op : Byte) (st : Status) (value : Half) (s : State) : State := setPc .idle (respond op st value s)

/-- The first check of R153 that a command fails, and its status. -/
def checkFailure (i : Instr) (s : State) : Option Status :=
  match i with
  | .begin f => if s.eng.connected then some .resourceBusy else if freqOk f then none else some .invalidParam
  | .echoStart lp ld delay plen =>
    if s.ectl.run then some .alreadyRunning
    else if operandsLegal s.cfg (.echoStart lp ld delay plen) then none else some .invalidParam
  | _ =>
    if needsChip i then
      if s.eng.connected then (if operandsLegal s.cfg i then none else some .invalidParam) else some .notConnected
    else none

/-- The statuses a command can return, the table of R224. -/
def statusAllowed (i : Instr) (st : Status) : Bool :=
  match i with
  | .begin _ => st == .ok || st == .invalidChip || st == .ioError || st == .invalidParam || st == .resourceBusy
  | .setFrequency _ | .setSf _ | .setBw _ | .setCr _ | .setTxPower _ | .setSyncWord _ | .receiveMode _ =>
    st == .ok || st == .notConnected || st == .ioError || st == .invalidParam
  | .transmit _ => st == .ok || st == .notConnected || st == .ioError || st == .timeout || st == .invalidParam
  | .standby | .sleep | .getRssi | .getVersion => st == .ok || st == .notConnected || st == .ioError
  | .hardwareReset => st == .ok || st == .notConnected
  | .disconnect | .subscribe _ | .unsubscribe _ | .echoStop => st == .ok
  | .echoStart _ _ _ _ => st == .ok || st == .alreadyRunning || st == .invalidParam

/-- The end of RxDone handling (R176): in RXSINGLE a Standby write, which also cancels the RX-single timer (R140). -/
def endOfRx (s : State) : State :=
  if s.eng.mode = .rxSingle then setMode .standby (afterBus s [.write s.cfg.regmap.opMode 0x81]) else s

/-- The state with another quantum for the engine's turn (log 3). -/
def withQuantum (n : Nat) (s : State) : State := { s with env := { s.env with quantum := n } }

/-! ### The bus history and the pins -/

/-- Reading a bus history from a point where the handles are open or not: where it leaves them, or none if a transfer
is made while they are closed (R103). The drive of `cs_n_o` ends OpenHandles; its release begins CloseHandles (R105). -/
def historyOpen : Bool → List BusEvent → Option Bool
  | b, [] => some b
  | b, .read _ _ :: l => if b then historyOpen b l else none
  | b, .write _ _ :: l => if b then historyOpen b l else none
  | _, .pin .cs (.driven _) :: l => historyOpen true l
  | _, .pin .cs .released :: l => historyOpen false l
  | b, .pin .reset _ :: l => historyOpen b l
  | b, .pin .sclk _ :: l => historyOpen b l
  | b, .pin .mosi _ :: l => historyOpen b l

/-- No transfer of the bus history was made with the handles closed, and the history ends as the handles are. -/
abbrev HistoryOk (s : State) : Prop := historyOpen false s.bus = some s.eng.handles

/-- The MOSI levels at the rising edges of SCLK in a list of samples (R100). -/
def sclkRises : List SpiSample → List Bool
  | [] => []
  | [_] => []
  | a :: b :: l => if !a.sclk && b.sclk then b.mosi :: sclkRises (b :: l) else sclkRises (b :: l)

/-- Two outcomes agree but for the engine's working registers. -/
def sameButWorkOutcome : Host.Outcome State Fault Refusal → Host.Outcome State Fault Refusal → Prop
  | .next s, .next t => SameButWork s t
  | .fault a, .fault b => a = b
  | .refused a, .refused b => a = b
  | _, _ => False

end Sys2Proof.Safety
end

