-- ==== Sys2Proof/Laws/State.lean ====
section
/-! SUPPORT. One lemma per field of State per named update: the fields an update leaves alone, and what the small
updates write. No later proof needs to unfold a record update. -/

namespace Sys2Proof.Machine

/-! ### `record` -/

@[simp] theorem record_cfg (e : BusEvent) (s : State) : (record e s).cfg = s.cfg := rfl
@[simp] theorem record_pins (e : BusEvent) (s : State) : (record e s).pins = s.pins := rfl
@[simp] theorem record_eng (e : BusEvent) (s : State) : (record e s).eng = s.eng := rfl
@[simp] theorem record_tx (e : BusEvent) (s : State) : (record e s).tx = s.tx := rfl
@[simp] theorem record_work (e : BusEvent) (s : State) : (record e s).work = s.work := rfl
@[simp] theorem record_radio (e : BusEvent) (s : State) : (record e s).radio = s.radio := rfl
@[simp] theorem record_rxs (e : BusEvent) (s : State) : (record e s).rxs = s.rxs := rfl
@[simp] theorem record_subs (e : BusEvent) (s : State) : (record e s).subs = s.subs := rfl
@[simp] theorem record_inq (e : BusEvent) (s : State) : (record e s).inq = s.inq := rfl
@[simp] theorem record_rspq (e : BusEvent) (s : State) : (record e s).rspq = s.rspq := rfl
@[simp] theorem record_evtq (e : BusEvent) (s : State) : (record e s).evtq = s.evtq := rfl
@[simp] theorem record_evtCur (e : BusEvent) (s : State) : (record e s).evtCur = s.evtCur := rfl
@[simp] theorem record_dio (e : BusEvent) (s : State) : (record e s).dio = s.dio := rfl
@[simp] theorem record_host (e : BusEvent) (s : State) : (record e s).host = s.host := rfl
@[simp] theorem record_txbuf (e : BusEvent) (s : State) : (record e s).txbuf = s.txbuf := rfl
@[simp] theorem record_ectl (e : BusEvent) (s : State) : (record e s).ectl = s.ectl := rfl
@[simp] theorem record_eseq (e : BusEvent) (s : State) : (record e s).eseq = s.eseq := rfl
@[simp] theorem record_rpl (e : BusEvent) (s : State) : (record e s).rpl = s.rpl := rfl
@[simp] theorem record_eq (e : BusEvent) (s : State) : (record e s).eq = s.eq := rfl
@[simp] theorem record_env (e : BusEvent) (s : State) : (record e s).env = s.env := rfl

/-! ### `setPin` -/

@[simp] theorem setPin_cfg (p : Pin) (l : PinState) (s : State) : (setPin p l s).cfg = s.cfg := by cases p <;> rfl
@[simp] theorem setPin_bus (p : Pin) (l : PinState) (s : State) : (setPin p l s).bus = s.bus := by cases p <;> rfl
@[simp] theorem setPin_eng (p : Pin) (l : PinState) (s : State) : (setPin p l s).eng = s.eng := by cases p <;> rfl
@[simp] theorem setPin_tx (p : Pin) (l : PinState) (s : State) : (setPin p l s).tx = s.tx := by cases p <;> rfl
@[simp] theorem setPin_work (p : Pin) (l : PinState) (s : State) : (setPin p l s).work = s.work := by cases p <;> rfl
@[simp] theorem setPin_radio (p : Pin) (l : PinState) (s : State) : (setPin p l s).radio = s.radio := by cases p <;> rfl
@[simp] theorem setPin_rxs (p : Pin) (l : PinState) (s : State) : (setPin p l s).rxs = s.rxs := by cases p <;> rfl
@[simp] theorem setPin_subs (p : Pin) (l : PinState) (s : State) : (setPin p l s).subs = s.subs := by cases p <;> rfl
@[simp] theorem setPin_inq (p : Pin) (l : PinState) (s : State) : (setPin p l s).inq = s.inq := by cases p <;> rfl
@[simp] theorem setPin_rspq (p : Pin) (l : PinState) (s : State) : (setPin p l s).rspq = s.rspq := by cases p <;> rfl
@[simp] theorem setPin_evtq (p : Pin) (l : PinState) (s : State) : (setPin p l s).evtq = s.evtq := by cases p <;> rfl
@[simp] theorem setPin_evtCur (p : Pin) (l : PinState) (s : State) : (setPin p l s).evtCur = s.evtCur := by cases p <;> rfl
@[simp] theorem setPin_dio (p : Pin) (l : PinState) (s : State) : (setPin p l s).dio = s.dio := by cases p <;> rfl
@[simp] theorem setPin_host (p : Pin) (l : PinState) (s : State) : (setPin p l s).host = s.host := by cases p <;> rfl
@[simp] theorem setPin_txbuf (p : Pin) (l : PinState) (s : State) : (setPin p l s).txbuf = s.txbuf := by cases p <;> rfl
@[simp] theorem setPin_ectl (p : Pin) (l : PinState) (s : State) : (setPin p l s).ectl = s.ectl := by cases p <;> rfl
@[simp] theorem setPin_eseq (p : Pin) (l : PinState) (s : State) : (setPin p l s).eseq = s.eseq := by cases p <;> rfl
@[simp] theorem setPin_rpl (p : Pin) (l : PinState) (s : State) : (setPin p l s).rpl = s.rpl := by cases p <;> rfl
@[simp] theorem setPin_eq (p : Pin) (l : PinState) (s : State) : (setPin p l s).eq = s.eq := by cases p <;> rfl
@[simp] theorem setPin_env (p : Pin) (l : PinState) (s : State) : (setPin p l s).env = s.env := by cases p <;> rfl

/-! ### `drive` -/

@[simp] theorem drive_cfg (p : Pin) (b : Bool) (s : State) : (drive p b s).cfg = s.cfg := by cases p <;> rfl
@[simp] theorem drive_eng (p : Pin) (b : Bool) (s : State) : (drive p b s).eng = s.eng := by cases p <;> rfl
@[simp] theorem drive_tx (p : Pin) (b : Bool) (s : State) : (drive p b s).tx = s.tx := by cases p <;> rfl
@[simp] theorem drive_work (p : Pin) (b : Bool) (s : State) : (drive p b s).work = s.work := by cases p <;> rfl
@[simp] theorem drive_radio (p : Pin) (b : Bool) (s : State) : (drive p b s).radio = s.radio := by cases p <;> rfl
@[simp] theorem drive_rxs (p : Pin) (b : Bool) (s : State) : (drive p b s).rxs = s.rxs := by cases p <;> rfl
@[simp] theorem drive_subs (p : Pin) (b : Bool) (s : State) : (drive p b s).subs = s.subs := by cases p <;> rfl
@[simp] theorem drive_inq (p : Pin) (b : Bool) (s : State) : (drive p b s).inq = s.inq := by cases p <;> rfl
@[simp] theorem drive_rspq (p : Pin) (b : Bool) (s : State) : (drive p b s).rspq = s.rspq := by cases p <;> rfl
@[simp] theorem drive_evtq (p : Pin) (b : Bool) (s : State) : (drive p b s).evtq = s.evtq := by cases p <;> rfl
@[simp] theorem drive_evtCur (p : Pin) (b : Bool) (s : State) : (drive p b s).evtCur = s.evtCur := by cases p <;> rfl
@[simp] theorem drive_dio (p : Pin) (b : Bool) (s : State) : (drive p b s).dio = s.dio := by cases p <;> rfl
@[simp] theorem drive_host (p : Pin) (b : Bool) (s : State) : (drive p b s).host = s.host := by cases p <;> rfl
@[simp] theorem drive_txbuf (p : Pin) (b : Bool) (s : State) : (drive p b s).txbuf = s.txbuf := by cases p <;> rfl
@[simp] theorem drive_ectl (p : Pin) (b : Bool) (s : State) : (drive p b s).ectl = s.ectl := by cases p <;> rfl
@[simp] theorem drive_eseq (p : Pin) (b : Bool) (s : State) : (drive p b s).eseq = s.eseq := by cases p <;> rfl
@[simp] theorem drive_rpl (p : Pin) (b : Bool) (s : State) : (drive p b s).rpl = s.rpl := by cases p <;> rfl
@[simp] theorem drive_eq (p : Pin) (b : Bool) (s : State) : (drive p b s).eq = s.eq := by cases p <;> rfl
@[simp] theorem drive_env (p : Pin) (b : Bool) (s : State) : (drive p b s).env = s.env := by cases p <;> rfl

/-! ### `release` -/

@[simp] theorem release_cfg (p : Pin) (s : State) : (release p s).cfg = s.cfg := by cases p <;> rfl
@[simp] theorem release_eng (p : Pin) (s : State) : (release p s).eng = s.eng := by cases p <;> rfl
@[simp] theorem release_tx (p : Pin) (s : State) : (release p s).tx = s.tx := by cases p <;> rfl
@[simp] theorem release_work (p : Pin) (s : State) : (release p s).work = s.work := by cases p <;> rfl
@[simp] theorem release_radio (p : Pin) (s : State) : (release p s).radio = s.radio := by cases p <;> rfl
@[simp] theorem release_rxs (p : Pin) (s : State) : (release p s).rxs = s.rxs := by cases p <;> rfl
@[simp] theorem release_subs (p : Pin) (s : State) : (release p s).subs = s.subs := by cases p <;> rfl
@[simp] theorem release_inq (p : Pin) (s : State) : (release p s).inq = s.inq := by cases p <;> rfl
@[simp] theorem release_rspq (p : Pin) (s : State) : (release p s).rspq = s.rspq := by cases p <;> rfl
@[simp] theorem release_evtq (p : Pin) (s : State) : (release p s).evtq = s.evtq := by cases p <;> rfl
@[simp] theorem release_evtCur (p : Pin) (s : State) : (release p s).evtCur = s.evtCur := by cases p <;> rfl
@[simp] theorem release_dio (p : Pin) (s : State) : (release p s).dio = s.dio := by cases p <;> rfl
@[simp] theorem release_host (p : Pin) (s : State) : (release p s).host = s.host := by cases p <;> rfl
@[simp] theorem release_txbuf (p : Pin) (s : State) : (release p s).txbuf = s.txbuf := by cases p <;> rfl
@[simp] theorem release_ectl (p : Pin) (s : State) : (release p s).ectl = s.ectl := by cases p <;> rfl
@[simp] theorem release_eseq (p : Pin) (s : State) : (release p s).eseq = s.eseq := by cases p <;> rfl
@[simp] theorem release_rpl (p : Pin) (s : State) : (release p s).rpl = s.rpl := by cases p <;> rfl
@[simp] theorem release_eq (p : Pin) (s : State) : (release p s).eq = s.eq := by cases p <;> rfl
@[simp] theorem release_env (p : Pin) (s : State) : (release p s).env = s.env := by cases p <;> rfl

/-! ### `openHandles` -/

@[simp] theorem openHandles_cfg (s : State) : (openHandles s).cfg = s.cfg := rfl
@[simp] theorem openHandles_tx (s : State) : (openHandles s).tx = s.tx := rfl
@[simp] theorem openHandles_work (s : State) : (openHandles s).work = s.work := rfl
@[simp] theorem openHandles_radio (s : State) : (openHandles s).radio = s.radio := rfl
@[simp] theorem openHandles_rxs (s : State) : (openHandles s).rxs = s.rxs := rfl
@[simp] theorem openHandles_subs (s : State) : (openHandles s).subs = s.subs := rfl
@[simp] theorem openHandles_inq (s : State) : (openHandles s).inq = s.inq := rfl
@[simp] theorem openHandles_rspq (s : State) : (openHandles s).rspq = s.rspq := rfl
@[simp] theorem openHandles_evtq (s : State) : (openHandles s).evtq = s.evtq := rfl
@[simp] theorem openHandles_evtCur (s : State) : (openHandles s).evtCur = s.evtCur := rfl
@[simp] theorem openHandles_host (s : State) : (openHandles s).host = s.host := rfl
@[simp] theorem openHandles_txbuf (s : State) : (openHandles s).txbuf = s.txbuf := rfl
@[simp] theorem openHandles_ectl (s : State) : (openHandles s).ectl = s.ectl := rfl
@[simp] theorem openHandles_eseq (s : State) : (openHandles s).eseq = s.eseq := rfl
@[simp] theorem openHandles_rpl (s : State) : (openHandles s).rpl = s.rpl := rfl
@[simp] theorem openHandles_eq (s : State) : (openHandles s).eq = s.eq := rfl
@[simp] theorem openHandles_env (s : State) : (openHandles s).env = s.env := rfl

/-! ### `closeHandles` -/

@[simp] theorem closeHandles_cfg (s : State) : (closeHandles s).cfg = s.cfg := rfl
@[simp] theorem closeHandles_tx (s : State) : (closeHandles s).tx = s.tx := rfl
@[simp] theorem closeHandles_work (s : State) : (closeHandles s).work = s.work := rfl
@[simp] theorem closeHandles_radio (s : State) : (closeHandles s).radio = s.radio := rfl
@[simp] theorem closeHandles_rxs (s : State) : (closeHandles s).rxs = s.rxs := rfl
@[simp] theorem closeHandles_subs (s : State) : (closeHandles s).subs = s.subs := rfl
@[simp] theorem closeHandles_inq (s : State) : (closeHandles s).inq = s.inq := rfl
@[simp] theorem closeHandles_rspq (s : State) : (closeHandles s).rspq = s.rspq := rfl
@[simp] theorem closeHandles_evtq (s : State) : (closeHandles s).evtq = s.evtq := rfl
@[simp] theorem closeHandles_evtCur (s : State) : (closeHandles s).evtCur = s.evtCur := rfl
@[simp] theorem closeHandles_dio (s : State) : (closeHandles s).dio = s.dio := rfl
@[simp] theorem closeHandles_host (s : State) : (closeHandles s).host = s.host := rfl
@[simp] theorem closeHandles_txbuf (s : State) : (closeHandles s).txbuf = s.txbuf := rfl
@[simp] theorem closeHandles_ectl (s : State) : (closeHandles s).ectl = s.ectl := rfl
@[simp] theorem closeHandles_eseq (s : State) : (closeHandles s).eseq = s.eseq := rfl
@[simp] theorem closeHandles_rpl (s : State) : (closeHandles s).rpl = s.rpl := rfl
@[simp] theorem closeHandles_eq (s : State) : (closeHandles s).eq = s.eq := rfl
@[simp] theorem closeHandles_env (s : State) : (closeHandles s).env = s.env := rfl

/-! ### `closeIfOpen` -/

@[simp] theorem closeIfOpen_cfg (s : State) : (closeIfOpen s).cfg = s.cfg := by unfold closeIfOpen; split <;> rfl
@[simp] theorem closeIfOpen_tx (s : State) : (closeIfOpen s).tx = s.tx := by unfold closeIfOpen; split <;> rfl
@[simp] theorem closeIfOpen_work (s : State) : (closeIfOpen s).work = s.work := by unfold closeIfOpen; split <;> rfl
@[simp] theorem closeIfOpen_radio (s : State) : (closeIfOpen s).radio = s.radio := by unfold closeIfOpen; split <;> rfl
@[simp] theorem closeIfOpen_rxs (s : State) : (closeIfOpen s).rxs = s.rxs := by unfold closeIfOpen; split <;> rfl
@[simp] theorem closeIfOpen_subs (s : State) : (closeIfOpen s).subs = s.subs := by unfold closeIfOpen; split <;> rfl
@[simp] theorem closeIfOpen_inq (s : State) : (closeIfOpen s).inq = s.inq := by unfold closeIfOpen; split <;> rfl
@[simp] theorem closeIfOpen_rspq (s : State) : (closeIfOpen s).rspq = s.rspq := by unfold closeIfOpen; split <;> rfl
@[simp] theorem closeIfOpen_evtq (s : State) : (closeIfOpen s).evtq = s.evtq := by unfold closeIfOpen; split <;> rfl
@[simp] theorem closeIfOpen_evtCur (s : State) : (closeIfOpen s).evtCur = s.evtCur := by unfold closeIfOpen; split <;> rfl
@[simp] theorem closeIfOpen_dio (s : State) : (closeIfOpen s).dio = s.dio := by unfold closeIfOpen; split <;> rfl
@[simp] theorem closeIfOpen_host (s : State) : (closeIfOpen s).host = s.host := by unfold closeIfOpen; split <;> rfl
@[simp] theorem closeIfOpen_txbuf (s : State) : (closeIfOpen s).txbuf = s.txbuf := by unfold closeIfOpen; split <;> rfl
@[simp] theorem closeIfOpen_ectl (s : State) : (closeIfOpen s).ectl = s.ectl := by unfold closeIfOpen; split <;> rfl
@[simp] theorem closeIfOpen_eseq (s : State) : (closeIfOpen s).eseq = s.eseq := by unfold closeIfOpen; split <;> rfl
@[simp] theorem closeIfOpen_rpl (s : State) : (closeIfOpen s).rpl = s.rpl := by unfold closeIfOpen; split <;> rfl
@[simp] theorem closeIfOpen_eq (s : State) : (closeIfOpen s).eq = s.eq := by unfold closeIfOpen; split <;> rfl
@[simp] theorem closeIfOpen_env (s : State) : (closeIfOpen s).env = s.env := by unfold closeIfOpen; split <;> rfl

/-! ### `memWrite` -/

@[simp] theorem memWrite_cfg (a : ChipAddr) (d : Byte) (s : State) : (memWrite a d s).2.cfg = s.cfg := rfl
@[simp] theorem memWrite_pins (a : ChipAddr) (d : Byte) (s : State) : (memWrite a d s).2.pins = s.pins := rfl
@[simp] theorem memWrite_eng (a : ChipAddr) (d : Byte) (s : State) : (memWrite a d s).2.eng = s.eng := rfl
@[simp] theorem memWrite_tx (a : ChipAddr) (d : Byte) (s : State) : (memWrite a d s).2.tx = s.tx := rfl
@[simp] theorem memWrite_work (a : ChipAddr) (d : Byte) (s : State) : (memWrite a d s).2.work = s.work := rfl
@[simp] theorem memWrite_radio (a : ChipAddr) (d : Byte) (s : State) : (memWrite a d s).2.radio = s.radio := rfl
@[simp] theorem memWrite_rxs (a : ChipAddr) (d : Byte) (s : State) : (memWrite a d s).2.rxs = s.rxs := rfl
@[simp] theorem memWrite_subs (a : ChipAddr) (d : Byte) (s : State) : (memWrite a d s).2.subs = s.subs := rfl
@[simp] theorem memWrite_inq (a : ChipAddr) (d : Byte) (s : State) : (memWrite a d s).2.inq = s.inq := rfl
@[simp] theorem memWrite_rspq (a : ChipAddr) (d : Byte) (s : State) : (memWrite a d s).2.rspq = s.rspq := rfl
@[simp] theorem memWrite_evtq (a : ChipAddr) (d : Byte) (s : State) : (memWrite a d s).2.evtq = s.evtq := rfl
@[simp] theorem memWrite_evtCur (a : ChipAddr) (d : Byte) (s : State) : (memWrite a d s).2.evtCur = s.evtCur := rfl
@[simp] theorem memWrite_dio (a : ChipAddr) (d : Byte) (s : State) : (memWrite a d s).2.dio = s.dio := rfl
@[simp] theorem memWrite_host (a : ChipAddr) (d : Byte) (s : State) : (memWrite a d s).2.host = s.host := rfl
@[simp] theorem memWrite_txbuf (a : ChipAddr) (d : Byte) (s : State) : (memWrite a d s).2.txbuf = s.txbuf := rfl
@[simp] theorem memWrite_ectl (a : ChipAddr) (d : Byte) (s : State) : (memWrite a d s).2.ectl = s.ectl := rfl
@[simp] theorem memWrite_eseq (a : ChipAddr) (d : Byte) (s : State) : (memWrite a d s).2.eseq = s.eseq := rfl
@[simp] theorem memWrite_rpl (a : ChipAddr) (d : Byte) (s : State) : (memWrite a d s).2.rpl = s.rpl := rfl
@[simp] theorem memWrite_eq (a : ChipAddr) (d : Byte) (s : State) : (memWrite a d s).2.eq = s.eq := rfl

/-! ### `memRead` -/

@[simp] theorem memRead_cfg (a : ChipAddr) (s : State) : (memRead a s).2.2.cfg = s.cfg := rfl
@[simp] theorem memRead_pins (a : ChipAddr) (s : State) : (memRead a s).2.2.pins = s.pins := rfl
@[simp] theorem memRead_eng (a : ChipAddr) (s : State) : (memRead a s).2.2.eng = s.eng := rfl
@[simp] theorem memRead_tx (a : ChipAddr) (s : State) : (memRead a s).2.2.tx = s.tx := rfl
@[simp] theorem memRead_work (a : ChipAddr) (s : State) : (memRead a s).2.2.work = s.work := rfl
@[simp] theorem memRead_radio (a : ChipAddr) (s : State) : (memRead a s).2.2.radio = s.radio := rfl
@[simp] theorem memRead_rxs (a : ChipAddr) (s : State) : (memRead a s).2.2.rxs = s.rxs := rfl
@[simp] theorem memRead_subs (a : ChipAddr) (s : State) : (memRead a s).2.2.subs = s.subs := rfl
@[simp] theorem memRead_inq (a : ChipAddr) (s : State) : (memRead a s).2.2.inq = s.inq := rfl
@[simp] theorem memRead_rspq (a : ChipAddr) (s : State) : (memRead a s).2.2.rspq = s.rspq := rfl
@[simp] theorem memRead_evtq (a : ChipAddr) (s : State) : (memRead a s).2.2.evtq = s.evtq := rfl
@[simp] theorem memRead_evtCur (a : ChipAddr) (s : State) : (memRead a s).2.2.evtCur = s.evtCur := rfl
@[simp] theorem memRead_dio (a : ChipAddr) (s : State) : (memRead a s).2.2.dio = s.dio := rfl
@[simp] theorem memRead_host (a : ChipAddr) (s : State) : (memRead a s).2.2.host = s.host := rfl
@[simp] theorem memRead_txbuf (a : ChipAddr) (s : State) : (memRead a s).2.2.txbuf = s.txbuf := rfl
@[simp] theorem memRead_ectl (a : ChipAddr) (s : State) : (memRead a s).2.2.ectl = s.ectl := rfl
@[simp] theorem memRead_eseq (a : ChipAddr) (s : State) : (memRead a s).2.2.eseq = s.eseq := rfl
@[simp] theorem memRead_rpl (a : ChipAddr) (s : State) : (memRead a s).2.2.rpl = s.rpl := rfl
@[simp] theorem memRead_eq (a : ChipAddr) (s : State) : (memRead a s).2.2.eq = s.eq := rfl

/-! ### `setMode` -/

@[simp] theorem setMode_cfg (m : Mode) (s : State) : (setMode m s).cfg = s.cfg := rfl
@[simp] theorem setMode_pins (m : Mode) (s : State) : (setMode m s).pins = s.pins := rfl
@[simp] theorem setMode_bus (m : Mode) (s : State) : (setMode m s).bus = s.bus := rfl
@[simp] theorem setMode_tx (m : Mode) (s : State) : (setMode m s).tx = s.tx := rfl
@[simp] theorem setMode_work (m : Mode) (s : State) : (setMode m s).work = s.work := rfl
@[simp] theorem setMode_radio (m : Mode) (s : State) : (setMode m s).radio = s.radio := rfl
@[simp] theorem setMode_subs (m : Mode) (s : State) : (setMode m s).subs = s.subs := rfl
@[simp] theorem setMode_inq (m : Mode) (s : State) : (setMode m s).inq = s.inq := rfl
@[simp] theorem setMode_rspq (m : Mode) (s : State) : (setMode m s).rspq = s.rspq := rfl
@[simp] theorem setMode_evtq (m : Mode) (s : State) : (setMode m s).evtq = s.evtq := rfl
@[simp] theorem setMode_evtCur (m : Mode) (s : State) : (setMode m s).evtCur = s.evtCur := rfl
@[simp] theorem setMode_dio (m : Mode) (s : State) : (setMode m s).dio = s.dio := rfl
@[simp] theorem setMode_host (m : Mode) (s : State) : (setMode m s).host = s.host := rfl
@[simp] theorem setMode_txbuf (m : Mode) (s : State) : (setMode m s).txbuf = s.txbuf := rfl
@[simp] theorem setMode_ectl (m : Mode) (s : State) : (setMode m s).ectl = s.ectl := rfl
@[simp] theorem setMode_eseq (m : Mode) (s : State) : (setMode m s).eseq = s.eseq := rfl
@[simp] theorem setMode_rpl (m : Mode) (s : State) : (setMode m s).rpl = s.rpl := rfl
@[simp] theorem setMode_eq (m : Mode) (s : State) : (setMode m s).eq = s.eq := rfl
@[simp] theorem setMode_env (m : Mode) (s : State) : (setMode m s).env = s.env := rfl

/-! ### `cancelRxSingle` -/

@[simp] theorem cancelRxSingle_cfg (s : State) : (cancelRxSingle s).cfg = s.cfg := rfl
@[simp] theorem cancelRxSingle_pins (s : State) : (cancelRxSingle s).pins = s.pins := rfl
@[simp] theorem cancelRxSingle_bus (s : State) : (cancelRxSingle s).bus = s.bus := rfl
@[simp] theorem cancelRxSingle_eng (s : State) : (cancelRxSingle s).eng = s.eng := rfl
@[simp] theorem cancelRxSingle_tx (s : State) : (cancelRxSingle s).tx = s.tx := rfl
@[simp] theorem cancelRxSingle_work (s : State) : (cancelRxSingle s).work = s.work := rfl
@[simp] theorem cancelRxSingle_radio (s : State) : (cancelRxSingle s).radio = s.radio := rfl
@[simp] theorem cancelRxSingle_subs (s : State) : (cancelRxSingle s).subs = s.subs := rfl
@[simp] theorem cancelRxSingle_inq (s : State) : (cancelRxSingle s).inq = s.inq := rfl
@[simp] theorem cancelRxSingle_rspq (s : State) : (cancelRxSingle s).rspq = s.rspq := rfl
@[simp] theorem cancelRxSingle_evtq (s : State) : (cancelRxSingle s).evtq = s.evtq := rfl
@[simp] theorem cancelRxSingle_evtCur (s : State) : (cancelRxSingle s).evtCur = s.evtCur := rfl
@[simp] theorem cancelRxSingle_dio (s : State) : (cancelRxSingle s).dio = s.dio := rfl
@[simp] theorem cancelRxSingle_host (s : State) : (cancelRxSingle s).host = s.host := rfl
@[simp] theorem cancelRxSingle_txbuf (s : State) : (cancelRxSingle s).txbuf = s.txbuf := rfl
@[simp] theorem cancelRxSingle_ectl (s : State) : (cancelRxSingle s).ectl = s.ectl := rfl
@[simp] theorem cancelRxSingle_eseq (s : State) : (cancelRxSingle s).eseq = s.eseq := rfl
@[simp] theorem cancelRxSingle_rpl (s : State) : (cancelRxSingle s).rpl = s.rpl := rfl
@[simp] theorem cancelRxSingle_eq (s : State) : (cancelRxSingle s).eq = s.eq := rfl
@[simp] theorem cancelRxSingle_env (s : State) : (cancelRxSingle s).env = s.env := rfl

/-! ### `setPc` -/

@[simp] theorem setPc_cfg (p : Pc) (s : State) : (setPc p s).cfg = s.cfg := rfl
@[simp] theorem setPc_pins (p : Pc) (s : State) : (setPc p s).pins = s.pins := rfl
@[simp] theorem setPc_bus (p : Pc) (s : State) : (setPc p s).bus = s.bus := rfl
@[simp] theorem setPc_tx (p : Pc) (s : State) : (setPc p s).tx = s.tx := rfl
@[simp] theorem setPc_work (p : Pc) (s : State) : (setPc p s).work = s.work := rfl
@[simp] theorem setPc_radio (p : Pc) (s : State) : (setPc p s).radio = s.radio := rfl
@[simp] theorem setPc_rxs (p : Pc) (s : State) : (setPc p s).rxs = s.rxs := rfl
@[simp] theorem setPc_subs (p : Pc) (s : State) : (setPc p s).subs = s.subs := rfl
@[simp] theorem setPc_inq (p : Pc) (s : State) : (setPc p s).inq = s.inq := rfl
@[simp] theorem setPc_rspq (p : Pc) (s : State) : (setPc p s).rspq = s.rspq := rfl
@[simp] theorem setPc_evtq (p : Pc) (s : State) : (setPc p s).evtq = s.evtq := rfl
@[simp] theorem setPc_evtCur (p : Pc) (s : State) : (setPc p s).evtCur = s.evtCur := rfl
@[simp] theorem setPc_dio (p : Pc) (s : State) : (setPc p s).dio = s.dio := rfl
@[simp] theorem setPc_host (p : Pc) (s : State) : (setPc p s).host = s.host := rfl
@[simp] theorem setPc_txbuf (p : Pc) (s : State) : (setPc p s).txbuf = s.txbuf := rfl
@[simp] theorem setPc_ectl (p : Pc) (s : State) : (setPc p s).ectl = s.ectl := rfl
@[simp] theorem setPc_eseq (p : Pc) (s : State) : (setPc p s).eseq = s.eseq := rfl
@[simp] theorem setPc_rpl (p : Pc) (s : State) : (setPc p s).rpl = s.rpl := rfl
@[simp] theorem setPc_eq (p : Pc) (s : State) : (setPc p s).eq = s.eq := rfl
@[simp] theorem setPc_env (p : Pc) (s : State) : (setPc p s).env = s.env := rfl

/-! ### `loadWait` -/

@[simp] theorem loadWait_cfg (ms : Nat) (s : State) : (loadWait ms s).cfg = s.cfg := rfl
@[simp] theorem loadWait_pins (ms : Nat) (s : State) : (loadWait ms s).pins = s.pins := rfl
@[simp] theorem loadWait_bus (ms : Nat) (s : State) : (loadWait ms s).bus = s.bus := rfl
@[simp] theorem loadWait_tx (ms : Nat) (s : State) : (loadWait ms s).tx = s.tx := rfl
@[simp] theorem loadWait_work (ms : Nat) (s : State) : (loadWait ms s).work = s.work := rfl
@[simp] theorem loadWait_radio (ms : Nat) (s : State) : (loadWait ms s).radio = s.radio := rfl
@[simp] theorem loadWait_rxs (ms : Nat) (s : State) : (loadWait ms s).rxs = s.rxs := rfl
@[simp] theorem loadWait_subs (ms : Nat) (s : State) : (loadWait ms s).subs = s.subs := rfl
@[simp] theorem loadWait_inq (ms : Nat) (s : State) : (loadWait ms s).inq = s.inq := rfl
@[simp] theorem loadWait_rspq (ms : Nat) (s : State) : (loadWait ms s).rspq = s.rspq := rfl
@[simp] theorem loadWait_evtq (ms : Nat) (s : State) : (loadWait ms s).evtq = s.evtq := rfl
@[simp] theorem loadWait_evtCur (ms : Nat) (s : State) : (loadWait ms s).evtCur = s.evtCur := rfl
@[simp] theorem loadWait_dio (ms : Nat) (s : State) : (loadWait ms s).dio = s.dio := rfl
@[simp] theorem loadWait_host (ms : Nat) (s : State) : (loadWait ms s).host = s.host := rfl
@[simp] theorem loadWait_txbuf (ms : Nat) (s : State) : (loadWait ms s).txbuf = s.txbuf := rfl
@[simp] theorem loadWait_ectl (ms : Nat) (s : State) : (loadWait ms s).ectl = s.ectl := rfl
@[simp] theorem loadWait_eseq (ms : Nat) (s : State) : (loadWait ms s).eseq = s.eseq := rfl
@[simp] theorem loadWait_rpl (ms : Nat) (s : State) : (loadWait ms s).rpl = s.rpl := rfl
@[simp] theorem loadWait_eq (ms : Nat) (s : State) : (loadWait ms s).eq = s.eq := rfl
@[simp] theorem loadWait_env (ms : Nat) (s : State) : (loadWait ms s).env = s.env := rfl

/-! ### `setV` -/

@[simp] theorem setV_cfg (v : Byte) (s : State) : (setV v s).cfg = s.cfg := rfl
@[simp] theorem setV_pins (v : Byte) (s : State) : (setV v s).pins = s.pins := rfl
@[simp] theorem setV_bus (v : Byte) (s : State) : (setV v s).bus = s.bus := rfl
@[simp] theorem setV_eng (v : Byte) (s : State) : (setV v s).eng = s.eng := rfl
@[simp] theorem setV_tx (v : Byte) (s : State) : (setV v s).tx = s.tx := rfl
@[simp] theorem setV_radio (v : Byte) (s : State) : (setV v s).radio = s.radio := rfl
@[simp] theorem setV_rxs (v : Byte) (s : State) : (setV v s).rxs = s.rxs := rfl
@[simp] theorem setV_subs (v : Byte) (s : State) : (setV v s).subs = s.subs := rfl
@[simp] theorem setV_inq (v : Byte) (s : State) : (setV v s).inq = s.inq := rfl
@[simp] theorem setV_rspq (v : Byte) (s : State) : (setV v s).rspq = s.rspq := rfl
@[simp] theorem setV_evtq (v : Byte) (s : State) : (setV v s).evtq = s.evtq := rfl
@[simp] theorem setV_evtCur (v : Byte) (s : State) : (setV v s).evtCur = s.evtCur := rfl
@[simp] theorem setV_dio (v : Byte) (s : State) : (setV v s).dio = s.dio := rfl
@[simp] theorem setV_host (v : Byte) (s : State) : (setV v s).host = s.host := rfl
@[simp] theorem setV_txbuf (v : Byte) (s : State) : (setV v s).txbuf = s.txbuf := rfl
@[simp] theorem setV_ectl (v : Byte) (s : State) : (setV v s).ectl = s.ectl := rfl
@[simp] theorem setV_eseq (v : Byte) (s : State) : (setV v s).eseq = s.eseq := rfl
@[simp] theorem setV_rpl (v : Byte) (s : State) : (setV v s).rpl = s.rpl := rfl
@[simp] theorem setV_eq (v : Byte) (s : State) : (setV v s).eq = s.eq := rfl
@[simp] theorem setV_env (v : Byte) (s : State) : (setV v s).env = s.env := rfl

/-! ### `setI` -/

@[simp] theorem setI_cfg (i : BitVec 9) (s : State) : (setI i s).cfg = s.cfg := rfl
@[simp] theorem setI_pins (i : BitVec 9) (s : State) : (setI i s).pins = s.pins := rfl
@[simp] theorem setI_bus (i : BitVec 9) (s : State) : (setI i s).bus = s.bus := rfl
@[simp] theorem setI_eng (i : BitVec 9) (s : State) : (setI i s).eng = s.eng := rfl
@[simp] theorem setI_tx (i : BitVec 9) (s : State) : (setI i s).tx = s.tx := rfl
@[simp] theorem setI_radio (i : BitVec 9) (s : State) : (setI i s).radio = s.radio := rfl
@[simp] theorem setI_rxs (i : BitVec 9) (s : State) : (setI i s).rxs = s.rxs := rfl
@[simp] theorem setI_subs (i : BitVec 9) (s : State) : (setI i s).subs = s.subs := rfl
@[simp] theorem setI_inq (i : BitVec 9) (s : State) : (setI i s).inq = s.inq := rfl
@[simp] theorem setI_rspq (i : BitVec 9) (s : State) : (setI i s).rspq = s.rspq := rfl
@[simp] theorem setI_evtq (i : BitVec 9) (s : State) : (setI i s).evtq = s.evtq := rfl
@[simp] theorem setI_evtCur (i : BitVec 9) (s : State) : (setI i s).evtCur = s.evtCur := rfl
@[simp] theorem setI_dio (i : BitVec 9) (s : State) : (setI i s).dio = s.dio := rfl
@[simp] theorem setI_host (i : BitVec 9) (s : State) : (setI i s).host = s.host := rfl
@[simp] theorem setI_txbuf (i : BitVec 9) (s : State) : (setI i s).txbuf = s.txbuf := rfl
@[simp] theorem setI_ectl (i : BitVec 9) (s : State) : (setI i s).ectl = s.ectl := rfl
@[simp] theorem setI_eseq (i : BitVec 9) (s : State) : (setI i s).eseq = s.eseq := rfl
@[simp] theorem setI_rpl (i : BitVec 9) (s : State) : (setI i s).rpl = s.rpl := rfl
@[simp] theorem setI_eq (i : BitVec 9) (s : State) : (setI i s).eq = s.eq := rfl
@[simp] theorem setI_env (i : BitVec 9) (s : State) : (setI i s).env = s.env := rfl

/-! ### `take` -/

@[simp] theorem take_cfg (m : Msg) (rest : List Msg) (s : State) : (take m rest s).cfg = s.cfg := by cases m <;> rfl
@[simp] theorem take_pins (m : Msg) (rest : List Msg) (s : State) : (take m rest s).pins = s.pins := by cases m <;> rfl
@[simp] theorem take_bus (m : Msg) (rest : List Msg) (s : State) : (take m rest s).bus = s.bus := by cases m <;> rfl
@[simp] theorem take_tx (m : Msg) (rest : List Msg) (s : State) : (take m rest s).tx = s.tx := by cases m <;> rfl
@[simp] theorem take_work (m : Msg) (rest : List Msg) (s : State) : (take m rest s).work = s.work := by cases m <;> rfl
@[simp] theorem take_radio (m : Msg) (rest : List Msg) (s : State) : (take m rest s).radio = s.radio := by cases m <;> rfl
@[simp] theorem take_subs (m : Msg) (rest : List Msg) (s : State) : (take m rest s).subs = s.subs := by cases m <;> rfl
@[simp] theorem take_rspq (m : Msg) (rest : List Msg) (s : State) : (take m rest s).rspq = s.rspq := by cases m <;> rfl
@[simp] theorem take_evtq (m : Msg) (rest : List Msg) (s : State) : (take m rest s).evtq = s.evtq := by cases m <;> rfl
@[simp] theorem take_evtCur (m : Msg) (rest : List Msg) (s : State) : (take m rest s).evtCur = s.evtCur := by cases m <;> rfl
@[simp] theorem take_host (m : Msg) (rest : List Msg) (s : State) : (take m rest s).host = s.host := by cases m <;> rfl
@[simp] theorem take_txbuf (m : Msg) (rest : List Msg) (s : State) : (take m rest s).txbuf = s.txbuf := by cases m <;> rfl
@[simp] theorem take_ectl (m : Msg) (rest : List Msg) (s : State) : (take m rest s).ectl = s.ectl := by cases m <;> rfl
@[simp] theorem take_eseq (m : Msg) (rest : List Msg) (s : State) : (take m rest s).eseq = s.eseq := by cases m <;> rfl
@[simp] theorem take_rpl (m : Msg) (rest : List Msg) (s : State) : (take m rest s).rpl = s.rpl := by cases m <;> rfl
@[simp] theorem take_eq (m : Msg) (rest : List Msg) (s : State) : (take m rest s).eq = s.eq := by cases m <;> rfl
@[simp] theorem take_env (m : Msg) (rest : List Msg) (s : State) : (take m rest s).env = s.env := by cases m <;> rfl

/-! ### `respond` -/

@[simp] theorem respond_cfg (op : Byte) (st : Status) (v : Half) (s : State) : (respond op st v s).cfg = s.cfg := by unfold respond; split <;> rfl
@[simp] theorem respond_pins (op : Byte) (st : Status) (v : Half) (s : State) : (respond op st v s).pins = s.pins := by unfold respond; split <;> rfl
@[simp] theorem respond_bus (op : Byte) (st : Status) (v : Half) (s : State) : (respond op st v s).bus = s.bus := by unfold respond; split <;> rfl
@[simp] theorem respond_eng (op : Byte) (st : Status) (v : Half) (s : State) : (respond op st v s).eng = s.eng := by unfold respond; split <;> rfl
@[simp] theorem respond_tx (op : Byte) (st : Status) (v : Half) (s : State) : (respond op st v s).tx = s.tx := by unfold respond; split <;> rfl
@[simp] theorem respond_work (op : Byte) (st : Status) (v : Half) (s : State) : (respond op st v s).work = s.work := by unfold respond; split <;> rfl
@[simp] theorem respond_radio (op : Byte) (st : Status) (v : Half) (s : State) : (respond op st v s).radio = s.radio := by unfold respond; split <;> rfl
@[simp] theorem respond_rxs (op : Byte) (st : Status) (v : Half) (s : State) : (respond op st v s).rxs = s.rxs := by unfold respond; split <;> rfl
@[simp] theorem respond_subs (op : Byte) (st : Status) (v : Half) (s : State) : (respond op st v s).subs = s.subs := by unfold respond; split <;> rfl
@[simp] theorem respond_inq (op : Byte) (st : Status) (v : Half) (s : State) : (respond op st v s).inq = s.inq := by unfold respond; split <;> rfl
@[simp] theorem respond_evtq (op : Byte) (st : Status) (v : Half) (s : State) : (respond op st v s).evtq = s.evtq := by unfold respond; split <;> rfl
@[simp] theorem respond_evtCur (op : Byte) (st : Status) (v : Half) (s : State) : (respond op st v s).evtCur = s.evtCur := by unfold respond; split <;> rfl
@[simp] theorem respond_dio (op : Byte) (st : Status) (v : Half) (s : State) : (respond op st v s).dio = s.dio := by unfold respond; split <;> rfl
@[simp] theorem respond_host (op : Byte) (st : Status) (v : Half) (s : State) : (respond op st v s).host = s.host := by unfold respond; split <;> rfl
@[simp] theorem respond_txbuf (op : Byte) (st : Status) (v : Half) (s : State) : (respond op st v s).txbuf = s.txbuf := by unfold respond; split <;> rfl
@[simp] theorem respond_ectl (op : Byte) (st : Status) (v : Half) (s : State) : (respond op st v s).ectl = s.ectl := by unfold respond; split <;> rfl
@[simp] theorem respond_eseq (op : Byte) (st : Status) (v : Half) (s : State) : (respond op st v s).eseq = s.eseq := by unfold respond; split <;> rfl
@[simp] theorem respond_eq (op : Byte) (st : Status) (v : Half) (s : State) : (respond op st v s).eq = s.eq := by unfold respond; split <;> rfl
@[simp] theorem respond_env (op : Byte) (st : Status) (v : Half) (s : State) : (respond op st v s).env = s.env := by unfold respond; split <;> rfl

/-! ### `postEvt` -/

@[simp] theorem postEvt_cfg (e : Event) (s : State) : (postEvt e s).cfg = s.cfg := by unfold postEvt; split <;> (try split) <;> rfl
@[simp] theorem postEvt_pins (e : Event) (s : State) : (postEvt e s).pins = s.pins := by unfold postEvt; split <;> (try split) <;> rfl
@[simp] theorem postEvt_bus (e : Event) (s : State) : (postEvt e s).bus = s.bus := by unfold postEvt; split <;> (try split) <;> rfl
@[simp] theorem postEvt_eng (e : Event) (s : State) : (postEvt e s).eng = s.eng := by unfold postEvt; split <;> (try split) <;> rfl
@[simp] theorem postEvt_tx (e : Event) (s : State) : (postEvt e s).tx = s.tx := by unfold postEvt; split <;> (try split) <;> rfl
@[simp] theorem postEvt_work (e : Event) (s : State) : (postEvt e s).work = s.work := by unfold postEvt; split <;> (try split) <;> rfl
@[simp] theorem postEvt_radio (e : Event) (s : State) : (postEvt e s).radio = s.radio := by unfold postEvt; split <;> (try split) <;> rfl
@[simp] theorem postEvt_rxs (e : Event) (s : State) : (postEvt e s).rxs = s.rxs := by unfold postEvt; split <;> (try split) <;> rfl
@[simp] theorem postEvt_subs (e : Event) (s : State) : (postEvt e s).subs = s.subs := by unfold postEvt; split <;> (try split) <;> rfl
@[simp] theorem postEvt_inq (e : Event) (s : State) : (postEvt e s).inq = s.inq := by unfold postEvt; split <;> (try split) <;> rfl
@[simp] theorem postEvt_rspq (e : Event) (s : State) : (postEvt e s).rspq = s.rspq := by unfold postEvt; split <;> (try split) <;> rfl
@[simp] theorem postEvt_evtCur (e : Event) (s : State) : (postEvt e s).evtCur = s.evtCur := by unfold postEvt; split <;> (try split) <;> rfl
@[simp] theorem postEvt_dio (e : Event) (s : State) : (postEvt e s).dio = s.dio := by unfold postEvt; split <;> (try split) <;> rfl
@[simp] theorem postEvt_txbuf (e : Event) (s : State) : (postEvt e s).txbuf = s.txbuf := by unfold postEvt; split <;> (try split) <;> rfl
@[simp] theorem postEvt_ectl (e : Event) (s : State) : (postEvt e s).ectl = s.ectl := by unfold postEvt; split <;> (try split) <;> rfl
@[simp] theorem postEvt_eseq (e : Event) (s : State) : (postEvt e s).eseq = s.eseq := by unfold postEvt; split <;> (try split) <;> rfl
@[simp] theorem postEvt_rpl (e : Event) (s : State) : (postEvt e s).rpl = s.rpl := by unfold postEvt; split <;> (try split) <;> rfl
@[simp] theorem postEvt_eq (e : Event) (s : State) : (postEvt e s).eq = s.eq := by unfold postEvt; split <;> (try split) <;> rfl
@[simp] theorem postEvt_env (e : Event) (s : State) : (postEvt e s).env = s.env := by unfold postEvt; split <;> (try split) <;> rfl

/-! ### `postEq` -/

@[simp] theorem postEq_cfg (e : Event) (s : State) : (postEq e s).cfg = s.cfg := by unfold postEq; split <;> split <;> rfl
@[simp] theorem postEq_pins (e : Event) (s : State) : (postEq e s).pins = s.pins := by unfold postEq; split <;> split <;> rfl
@[simp] theorem postEq_bus (e : Event) (s : State) : (postEq e s).bus = s.bus := by unfold postEq; split <;> split <;> rfl
@[simp] theorem postEq_eng (e : Event) (s : State) : (postEq e s).eng = s.eng := by unfold postEq; split <;> split <;> rfl
@[simp] theorem postEq_tx (e : Event) (s : State) : (postEq e s).tx = s.tx := by unfold postEq; split <;> split <;> rfl
@[simp] theorem postEq_work (e : Event) (s : State) : (postEq e s).work = s.work := by unfold postEq; split <;> split <;> rfl
@[simp] theorem postEq_radio (e : Event) (s : State) : (postEq e s).radio = s.radio := by unfold postEq; split <;> split <;> rfl
@[simp] theorem postEq_rxs (e : Event) (s : State) : (postEq e s).rxs = s.rxs := by unfold postEq; split <;> split <;> rfl
@[simp] theorem postEq_subs (e : Event) (s : State) : (postEq e s).subs = s.subs := by unfold postEq; split <;> split <;> rfl
@[simp] theorem postEq_inq (e : Event) (s : State) : (postEq e s).inq = s.inq := by unfold postEq; split <;> split <;> rfl
@[simp] theorem postEq_rspq (e : Event) (s : State) : (postEq e s).rspq = s.rspq := by unfold postEq; split <;> split <;> rfl
@[simp] theorem postEq_evtq (e : Event) (s : State) : (postEq e s).evtq = s.evtq := by unfold postEq; split <;> split <;> rfl
@[simp] theorem postEq_evtCur (e : Event) (s : State) : (postEq e s).evtCur = s.evtCur := by unfold postEq; split <;> split <;> rfl
@[simp] theorem postEq_dio (e : Event) (s : State) : (postEq e s).dio = s.dio := by unfold postEq; split <;> split <;> rfl
@[simp] theorem postEq_txbuf (e : Event) (s : State) : (postEq e s).txbuf = s.txbuf := by unfold postEq; split <;> split <;> rfl
@[simp] theorem postEq_ectl (e : Event) (s : State) : (postEq e s).ectl = s.ectl := by unfold postEq; split <;> split <;> rfl
@[simp] theorem postEq_eseq (e : Event) (s : State) : (postEq e s).eseq = s.eseq := by unfold postEq; split <;> split <;> rfl
@[simp] theorem postEq_rpl (e : Event) (s : State) : (postEq e s).rpl = s.rpl := by unfold postEq; split <;> split <;> rfl
@[simp] theorem postEq_env (e : Event) (s : State) : (postEq e s).env = s.env := by unfold postEq; split <;> split <;> rfl

/-! ### `emit` -/

@[simp] theorem emit_cfg (e : Event) (s : State) : (emit e s).cfg = s.cfg := by simp only [emit]; split <;> simp
@[simp] theorem emit_pins (e : Event) (s : State) : (emit e s).pins = s.pins := by simp only [emit]; split <;> simp
@[simp] theorem emit_bus (e : Event) (s : State) : (emit e s).bus = s.bus := by simp only [emit]; split <;> simp
@[simp] theorem emit_eng (e : Event) (s : State) : (emit e s).eng = s.eng := by simp only [emit]; split <;> simp
@[simp] theorem emit_tx (e : Event) (s : State) : (emit e s).tx = s.tx := by simp only [emit]; split <;> simp
@[simp] theorem emit_work (e : Event) (s : State) : (emit e s).work = s.work := by simp only [emit]; split <;> simp
@[simp] theorem emit_radio (e : Event) (s : State) : (emit e s).radio = s.radio := by simp only [emit]; split <;> simp
@[simp] theorem emit_rxs (e : Event) (s : State) : (emit e s).rxs = s.rxs := by simp only [emit]; split <;> simp
@[simp] theorem emit_subs (e : Event) (s : State) : (emit e s).subs = s.subs := by simp only [emit]; split <;> simp
@[simp] theorem emit_inq (e : Event) (s : State) : (emit e s).inq = s.inq := by simp only [emit]; split <;> simp
@[simp] theorem emit_rspq (e : Event) (s : State) : (emit e s).rspq = s.rspq := by simp only [emit]; split <;> simp
@[simp] theorem emit_evtCur (e : Event) (s : State) : (emit e s).evtCur = s.evtCur := by simp only [emit]; split <;> simp
@[simp] theorem emit_dio (e : Event) (s : State) : (emit e s).dio = s.dio := by simp only [emit]; split <;> simp
@[simp] theorem emit_txbuf (e : Event) (s : State) : (emit e s).txbuf = s.txbuf := by simp only [emit]; split <;> simp
@[simp] theorem emit_ectl (e : Event) (s : State) : (emit e s).ectl = s.ectl := by simp only [emit]; split <;> simp
@[simp] theorem emit_eseq (e : Event) (s : State) : (emit e s).eseq = s.eseq := by simp only [emit]; split <;> simp
@[simp] theorem emit_rpl (e : Event) (s : State) : (emit e s).rpl = s.rpl := by simp only [emit]; split <;> simp
@[simp] theorem emit_env (e : Event) (s : State) : (emit e s).env = s.env := by simp only [emit]; split <;> simp

/-! ### `dropTurn` -/

@[simp] theorem dropTurn_cfg (s : State) : (dropTurn s).cfg = s.cfg := by unfold dropTurn; split <;> rfl
@[simp] theorem dropTurn_pins (s : State) : (dropTurn s).pins = s.pins := by unfold dropTurn; split <;> rfl
@[simp] theorem dropTurn_bus (s : State) : (dropTurn s).bus = s.bus := by unfold dropTurn; split <;> rfl
@[simp] theorem dropTurn_eng (s : State) : (dropTurn s).eng = s.eng := by unfold dropTurn; split <;> rfl
@[simp] theorem dropTurn_tx (s : State) : (dropTurn s).tx = s.tx := by unfold dropTurn; split <;> rfl
@[simp] theorem dropTurn_work (s : State) : (dropTurn s).work = s.work := by unfold dropTurn; split <;> rfl
@[simp] theorem dropTurn_radio (s : State) : (dropTurn s).radio = s.radio := by unfold dropTurn; split <;> rfl
@[simp] theorem dropTurn_rxs (s : State) : (dropTurn s).rxs = s.rxs := by unfold dropTurn; split <;> rfl
@[simp] theorem dropTurn_subs (s : State) : (dropTurn s).subs = s.subs := by unfold dropTurn; split <;> rfl
@[simp] theorem dropTurn_inq (s : State) : (dropTurn s).inq = s.inq := by unfold dropTurn; split <;> rfl
@[simp] theorem dropTurn_rspq (s : State) : (dropTurn s).rspq = s.rspq := by unfold dropTurn; split <;> rfl
@[simp] theorem dropTurn_evtq (s : State) : (dropTurn s).evtq = s.evtq := by unfold dropTurn; split <;> rfl
@[simp] theorem dropTurn_evtCur (s : State) : (dropTurn s).evtCur = s.evtCur := by unfold dropTurn; split <;> rfl
@[simp] theorem dropTurn_dio (s : State) : (dropTurn s).dio = s.dio := by unfold dropTurn; split <;> rfl
@[simp] theorem dropTurn_host (s : State) : (dropTurn s).host = s.host := by unfold dropTurn; split <;> rfl
@[simp] theorem dropTurn_txbuf (s : State) : (dropTurn s).txbuf = s.txbuf := by unfold dropTurn; split <;> rfl
@[simp] theorem dropTurn_ectl (s : State) : (dropTurn s).ectl = s.ectl := by unfold dropTurn; split <;> rfl
@[simp] theorem dropTurn_eseq (s : State) : (dropTurn s).eseq = s.eseq := by unfold dropTurn; split <;> rfl
@[simp] theorem dropTurn_rpl (s : State) : (dropTurn s).rpl = s.rpl := by unfold dropTurn; split <;> rfl
@[simp] theorem dropTurn_eq (s : State) : (dropTurn s).eq = s.eq := by unfold dropTurn; split <;> rfl

/-! ### `afterBus` -/

@[simp] theorem afterBus_cfg (s : State) (l : List BusEvent) : (Safety.afterBus s l).cfg = s.cfg := rfl
@[simp] theorem afterBus_pins (s : State) (l : List BusEvent) : (Safety.afterBus s l).pins = s.pins := rfl
@[simp] theorem afterBus_eng (s : State) (l : List BusEvent) : (Safety.afterBus s l).eng = s.eng := rfl
@[simp] theorem afterBus_tx (s : State) (l : List BusEvent) : (Safety.afterBus s l).tx = s.tx := rfl
@[simp] theorem afterBus_work (s : State) (l : List BusEvent) : (Safety.afterBus s l).work = s.work := rfl
@[simp] theorem afterBus_radio (s : State) (l : List BusEvent) : (Safety.afterBus s l).radio = s.radio := rfl
@[simp] theorem afterBus_rxs (s : State) (l : List BusEvent) : (Safety.afterBus s l).rxs = s.rxs := rfl
@[simp] theorem afterBus_subs (s : State) (l : List BusEvent) : (Safety.afterBus s l).subs = s.subs := rfl
@[simp] theorem afterBus_inq (s : State) (l : List BusEvent) : (Safety.afterBus s l).inq = s.inq := rfl
@[simp] theorem afterBus_rspq (s : State) (l : List BusEvent) : (Safety.afterBus s l).rspq = s.rspq := rfl
@[simp] theorem afterBus_evtq (s : State) (l : List BusEvent) : (Safety.afterBus s l).evtq = s.evtq := rfl
@[simp] theorem afterBus_evtCur (s : State) (l : List BusEvent) : (Safety.afterBus s l).evtCur = s.evtCur := rfl
@[simp] theorem afterBus_dio (s : State) (l : List BusEvent) : (Safety.afterBus s l).dio = s.dio := rfl
@[simp] theorem afterBus_host (s : State) (l : List BusEvent) : (Safety.afterBus s l).host = s.host := rfl
@[simp] theorem afterBus_txbuf (s : State) (l : List BusEvent) : (Safety.afterBus s l).txbuf = s.txbuf := rfl
@[simp] theorem afterBus_ectl (s : State) (l : List BusEvent) : (Safety.afterBus s l).ectl = s.ectl := rfl
@[simp] theorem afterBus_eseq (s : State) (l : List BusEvent) : (Safety.afterBus s l).eseq = s.eseq := rfl
@[simp] theorem afterBus_rpl (s : State) (l : List BusEvent) : (Safety.afterBus s l).rpl = s.rpl := rfl
@[simp] theorem afterBus_eq (s : State) (l : List BusEvent) : (Safety.afterBus s l).eq = s.eq := rfl

/-! ### The engine's fields after `setPc` -/

@[simp] theorem setPc_eng_pc (p : Pc) (s : State) : (setPc p s).eng.pc = p := rfl
@[simp] theorem setPc_eng_origin (p : Pc) (s : State) : (setPc p s).eng.origin = s.eng.origin := rfl
@[simp] theorem setPc_eng_handles (p : Pc) (s : State) : (setPc p s).eng.handles = s.eng.handles := rfl
@[simp] theorem setPc_eng_connected (p : Pc) (s : State) : (setPc p s).eng.connected = s.eng.connected := rfl
@[simp] theorem setPc_eng_mode (p : Pc) (s : State) : (setPc p s).eng.mode = s.eng.mode := rfl
@[simp] theorem setPc_eng_waitCnt (p : Pc) (s : State) : (setPc p s).eng.waitCnt = s.eng.waitCnt := rfl

/-! ### The engine's fields after `setMode` -/

@[simp] theorem setMode_eng_pc (m : Mode) (s : State) : (setMode m s).eng.pc = s.eng.pc := rfl
@[simp] theorem setMode_eng_origin (m : Mode) (s : State) : (setMode m s).eng.origin = s.eng.origin := rfl
@[simp] theorem setMode_eng_handles (m : Mode) (s : State) : (setMode m s).eng.handles = s.eng.handles := rfl
@[simp] theorem setMode_eng_connected (m : Mode) (s : State) : (setMode m s).eng.connected = s.eng.connected := rfl
@[simp] theorem setMode_eng_mode (m : Mode) (s : State) : (setMode m s).eng.mode = m := rfl
@[simp] theorem setMode_eng_waitCnt (m : Mode) (s : State) : (setMode m s).eng.waitCnt = s.eng.waitCnt := rfl

/-! ### The engine's fields after `loadWait` -/

@[simp] theorem loadWait_eng_pc (ms : Nat) (s : State) : (loadWait ms s).eng.pc = s.eng.pc := rfl
@[simp] theorem loadWait_eng_origin (ms : Nat) (s : State) : (loadWait ms s).eng.origin = s.eng.origin := rfl
@[simp] theorem loadWait_eng_handles (ms : Nat) (s : State) : (loadWait ms s).eng.handles = s.eng.handles := rfl
@[simp] theorem loadWait_eng_connected (ms : Nat) (s : State) : (loadWait ms s).eng.connected = s.eng.connected := rfl
@[simp] theorem loadWait_eng_mode (ms : Nat) (s : State) : (loadWait ms s).eng.mode = s.eng.mode := rfl
@[simp] theorem loadWait_eng_waitCnt (ms : Nat) (s : State) : (loadWait ms s).eng.waitCnt = BitVec.ofNat 14 (ms + 1) := rfl

/-! ### The engine's fields after `openHandles` -/

@[simp] theorem openHandles_eng_pc (s : State) : (openHandles s).eng.pc = s.eng.pc := rfl
@[simp] theorem openHandles_eng_origin (s : State) : (openHandles s).eng.origin = s.eng.origin := rfl
@[simp] theorem openHandles_eng_handles (s : State) : (openHandles s).eng.handles = true := rfl
@[simp] theorem openHandles_eng_connected (s : State) : (openHandles s).eng.connected = s.eng.connected := rfl
@[simp] theorem openHandles_eng_mode (s : State) : (openHandles s).eng.mode = s.eng.mode := rfl
@[simp] theorem openHandles_eng_waitCnt (s : State) : (openHandles s).eng.waitCnt = s.eng.waitCnt := rfl

/-! ### The engine's fields after `closeHandles` -/

@[simp] theorem closeHandles_eng_pc (s : State) : (closeHandles s).eng.pc = s.eng.pc := rfl
@[simp] theorem closeHandles_eng_origin (s : State) : (closeHandles s).eng.origin = s.eng.origin := rfl
@[simp] theorem closeHandles_eng_handles (s : State) : (closeHandles s).eng.handles = false := rfl
@[simp] theorem closeHandles_eng_connected (s : State) : (closeHandles s).eng.connected = s.eng.connected := rfl
@[simp] theorem closeHandles_eng_mode (s : State) : (closeHandles s).eng.mode = s.eng.mode := rfl
@[simp] theorem closeHandles_eng_waitCnt (s : State) : (closeHandles s).eng.waitCnt = s.eng.waitCnt := rfl

/-! ### What the small updates write -/

@[simp] theorem record_bus (e : BusEvent) (s : State) : (record e s).bus = s.bus ++ [e] := rfl
@[simp] theorem memWrite_bus (a : ChipAddr) (d : Byte) (s : State) : (memWrite a d s).2.bus = s.bus ++ [.write a d] := rfl
@[simp] theorem memRead_bus (a : ChipAddr) (s : State) :
    (memRead a s).2.2.bus = s.bus ++ [.read a (chipAnswer s)] := rfl
@[simp] theorem memWrite_env (a : ChipAddr) (d : Byte) (s : State) : (memWrite a d s).2.env = s.env.advance 1 0 := rfl
@[simp] theorem memRead_env (a : ChipAddr) (s : State) : (memRead a s).2.2.env = s.env.advance 1 1 := rfl
@[simp] theorem memWrite_fst (a : ChipAddr) (d : Byte) (s : State) : (memWrite a d s).1 = spiErrNow s := rfl
@[simp] theorem memRead_fst (a : ChipAddr) (s : State) : (memRead a s).1 = spiErrNow s := rfl
@[simp] theorem memRead_val (a : ChipAddr) (s : State) : (memRead a s).2.1 = chipAnswer s := rfl
@[simp] theorem cancelRxSingle_rxs (s : State) :
    (cancelRxSingle s).rxs = { s.rxs with cnt := 0, fired := false } := rfl
@[simp] theorem setV_work (v : Byte) (s : State) : (setV v s).work = { s.work with v := v } := rfl
@[simp] theorem setI_work (i : BitVec 9) (s : State) : (setI i s).work = { s.work with i := i } := rfl
@[simp] theorem openHandles_dio (s : State) : (openHandles s).dio = { s.dio with prev := s.dio.sync1 } := rfl
@[simp] theorem closeHandles_pins (s : State) :
    (closeHandles s).pins = { cs := .released, rst := .released, sclk := .released, mosi := .released } := rfl
@[simp] theorem advance_quantum (e : Env) (t r : Nat) : (e.advance t r).quantum = e.quantum := rfl
@[simp] theorem advance_turns (e : Env) (t r : Nat) : (e.advance t r).turns = e.turns := rfl
@[simp] theorem advance_turnNo (e : Env) (t r : Nat) : (e.advance t r).turnNo = e.turnNo := rfl
@[simp] theorem advance_miso (e : Env) (t r : Nat) : (e.advance t r).miso = e.miso := rfl
@[simp] theorem advance_spiErr (e : Env) (t r : Nat) : (e.advance t r).spiErr = e.spiErr := rfl
@[simp] theorem advance_txEpoch (e : Env) (t r : Nat) : (e.advance t r).txEpoch = e.txEpoch := rfl
@[simp] theorem advance_transferNo (e : Env) (t r : Nat) : (e.advance t r).transferNo = e.transferNo + t := rfl
@[simp] theorem advance_readNo (e : Env) (t r : Nat) : (e.advance t r).readNo = e.readNo + r := rfl
@[simp] theorem advance_advance (e : Env) (t r t' r' : Nat) :
    (e.advance t r).advance t' r' = e.advance (t + t') (r + r') := by
  simp [Env.advance, Nat.add_assoc]
@[simp] theorem advance_zero (e : Env) : e.advance 0 0 = e := rfl

end Sys2Proof.Machine
end

