-- ==== Sys2Proof/Laws/Memory.lean ====
section
/-! SUPPORT. TXBUF: reading what was written, and the canonical form that every memory operation keeps. -/

namespace Sys2Proof.Machine

/-- Reading the address just written gives the byte written. -/
theorem memFind_memStore_same (m : Memory) (a : Nat) (b : Byte) : memFind (memStore m a b) a = some b := by
  induction m with
  | nil => simp [memStore, memFind]
  | cons c rest ih =>
    obtain ⟨x, v⟩ := c
    by_cases h1 : a < x
    · simp [memStore, memFind, h1]
    · by_cases h2 : a = x
      · simp [memStore, memFind, h2]
      · have h3 : ¬ x = a := fun h => h2 h.symm
        simp [memStore, memFind, h1, h2, h3, ih]

/-- Writing one address leaves every other as it was. -/
theorem memFind_memStore_other (m : Memory) (a c : Nat) (b : Byte) (h : c ≠ a) :
    memFind (memStore m a b) c = memFind m c := by
  induction m with
  | nil => simp [memStore, memFind, Ne.symm h]
  | cons e rest ih =>
    obtain ⟨x, v⟩ := e
    by_cases h1 : a < x
    · simp [memStore, memFind, h1, Ne.symm h]
    · by_cases h2 : a = x
      · subst h2
        simp [memStore, memFind, Ne.symm h]
      · simp [memStore, memFind, h1, h2, ih]

/-- The canonical form of a longer list, taken apart. -/
theorem wf_cons_cons (c d : Host.Cell) (rest : Memory) :
    Memory.wf (c :: d :: rest) = true ↔ 0x100 ≤ c.1 ∧ c.1 < d.1 ∧ Memory.wf (d :: rest) = true := by
  simp [Memory.wf, and_assoc]

/-- A head in the window below a canonical list keeps the form. -/
theorem wf_cons (a : Nat) (b : Byte) (m : Memory) (hm : Memory.wf m = true) (ha : 0x100 ≤ a) (hb : a < 0x200)
    (hlt : ∀ c ∈ m.head?, a < c.1) : Memory.wf ((a, b) :: m) = true := by
  cases m with
  | nil => simp [Memory.wf, ha, hb]
  | cons d rest =>
    rw [wf_cons_cons]
    exact ⟨ha, hlt d (by simp), hm⟩

/-- The tail of a canonical list is canonical. -/
theorem wf_tail (c : Host.Cell) (m : Memory) (h : Memory.wf (c :: m) = true) : Memory.wf m = true := by
  cases m with
  | nil => rfl
  | cons d rest => exact ((wf_cons_cons c d rest).mp h).2.2

/-- The head of a canonical list is in the window. -/
theorem wf_head_window (c : Host.Cell) (m : Memory) (h : Memory.wf (c :: m) = true) :
    0x100 ≤ c.1 ∧ c.1 < 0x200 := by
  induction m generalizing c with
  | nil => simpa [Memory.wf] using h
  | cons d rest ih =>
    obtain ⟨h1, h2, h3⟩ := (wf_cons_cons c d rest).mp h
    have := ih d h3
    omega

/-- The head of a canonical list lies below the next address. -/
theorem wf_head_lt (c : Host.Cell) (m : Memory) (h : Memory.wf (c :: m) = true) : ∀ d ∈ m.head?, c.1 < d.1 := by
  cases m with
  | nil => simp
  | cons e rest =>
    intro d hd
    simp only [List.head?_cons, Option.mem_def, Option.some.injEq] at hd
    subst hd
    exact ((wf_cons_cons c e rest).mp h).2.1

/-- The first address after a store is the stored one or the first before it. -/
theorem memStore_head (m : Memory) (a : Nat) (b : Byte) :
    ∀ d ∈ (memStore m a b).head?, d.1 = a ∨ ∃ c ∈ m.head?, c.1 = d.1 := by
  intro d hd
  cases m with
  | nil =>
    simp only [memStore, List.head?_cons, Option.mem_def, Option.some.injEq] at hd
    exact .inl (by rw [← hd])
  | cons e rest =>
    obtain ⟨x, v⟩ := e
    simp only [memStore] at hd
    split at hd
    · simp only [List.head?_cons, Option.mem_def, Option.some.injEq] at hd
      exact .inl (by rw [← hd])
    · split at hd
      · simp only [List.head?_cons, Option.mem_def, Option.some.injEq] at hd
        exact .inl (by rw [← hd])
      · simp only [List.head?_cons, Option.mem_def, Option.some.injEq] at hd
        exact .inr ⟨(x, v), by simp, by rw [← hd]⟩

/-- A store in the window keeps the canonical form. -/
theorem memStore_wf (m : Memory) (a : Nat) (b : Byte) (hm : Memory.wf m = true) (ha : 0x100 ≤ a) (hb : a < 0x200) :
    Memory.wf (memStore m a b) = true := by
  induction m with
  | nil => simp [memStore, Memory.wf, ha, hb]
  | cons c rest ih =>
    obtain ⟨x, v⟩ := c
    have hwin := wf_head_window _ _ hm
    have hlt := wf_head_lt _ _ hm
    simp only [memStore]
    split
    · rename_i h1
      exact wf_cons a b _ hm ha hb (by simpa using h1)
    · split
      · rename_i h1 h2
        subst h2
        exact wf_cons a b rest (wf_tail _ _ hm) ha hb hlt
      · rename_i h1 h2
        refine wf_cons x v _ (ih (wf_tail _ _ hm)) hwin.1 hwin.2 ?_
        intro d hd
        rcases memStore_head rest a b d hd with h | ⟨e, he, hed⟩
        · omega
        · have := hlt e he
          simp only at this
          omega

/-- A host write of a word of the window keeps the canonical form. -/
theorem txStoreWord_wf (m : Memory) (a : Nat) (d : Word) (hm : Memory.wf m = true) (ha : 0x100 ≤ a)
    (hb : a + 3 < 0x200) : Memory.wf (txStoreWord m a d) = true := by
  unfold txStoreWord
  exact memStore_wf _ _ _ (memStore_wf _ _ _ (memStore_wf _ _ _ (memStore_wf _ _ _ hm ha (by omega)) (by omega)
    (by omega)) (by omega) (by omega)) (by omega) (by omega)

/-- An access's offset is a word address of the bus. -/
theorem csrOffset_lt (a : BusAddr) : csrOffset a < 0x400 := (a &&& 0x3FC).isLt

/-- An access's offset is a multiple of four (R67). -/
theorem csrOffset_aligned (a : BusAddr) : csrOffset a % 4 = 0 := by
  simp only [csrOffset]
  have h : (a &&& 0x3FC) &&& 0x3 = 0 := by
    ext i hi
    simp only [BitVec.getElem_and]
    interval_cases i <;> simp
  have h2 := congrArg BitVec.toNat h
  rw [BitVec.toNat_and] at h2
  have h3 : (0x3 : BitVec 10).toNat = 2 ^ 2 - 1 := by decide
  rw [h3, Nat.and_two_pow_sub_one_eq_mod] at h2
  simpa using h2

/-- A host write keeps the canonical form of TXBUF. -/
theorem hostWrite_txbuf_wf (a : BusAddr) (d : Word) (s : State) (h : Memory.wf s.txbuf = true) :
    Memory.wf (hostWrite a d s).txbuf = true := by
  simp only [hostWrite]
  split
  · rename_i hw
    have := csrOffset_aligned a
    exact txStoreWord_wf _ _ _ h hw.1 (by omega)
  · split
    · exact h
    · exact h
    · exact h
    · simp only [pushCommand]
      split <;> exact h
    · exact h

/-- At reset TXBUF has the canonical form. -/
theorem reset_txbuf_wf : Memory.wf State.reset.txbuf = true := rfl

end Sys2Proof.Machine
end

