-- ==== Sys2Proof/Laws/Ops.lean ====
section
/-! SUPPORT. For each shared operation, once, everything it can do; and the induction over an engine run, packaged
once. -/

namespace Sys2Proof.Machine

open Sys2Proof.Safety

/-! ### Transfers -/

/-- The bus history of two stretches is the stretches joined. -/
@[simp] theorem afterBus_afterBus (s : State) (l l' : List BusEvent) :
    afterBus (afterBus s l) l' = afterBus s (l ++ l') := by
  simp [afterBus, List.append_assoc]

@[simp] theorem afterBus_nil (s : State) : afterBus s [] = s := by
  simp [afterBus, Env.advance]

/-- A write whose transfer does not fail. -/
theorem memWrite_spec (a : ChipAddr) (d : Byte) (s : State) :
    memWrite a d s = (spiErrNow s, afterBus s [.write a d]) := rfl

/-- A read, with the chip's answer. -/
theorem memRead_spec (a : ChipAddr) (s : State) :
    memRead a s = (spiErrNow s, chipAnswer s, afterBus s [.read a (chipAnswer s)]) := rfl

/-- The first of the transfers that do not fail. -/
theorem noSpiErr_now {s : State} {n : Nat} (h : noSpiErr s n) (hn : 0 < n) : spiErrNow s = false := h 0 hn

/-- Later transfers, after a stretch of the bus history. -/
theorem noSpiErr_afterBus {s : State} {n : Nat} (h : noSpiErr s n) (l : List BusEvent) :
    noSpiErr (afterBus s l) (n - l.countP isTransfer) := by
  intro j hj
  have := h (l.countP isTransfer + j) (by omega)
  simpa [afterBus, Nat.add_assoc] using this

/-- Whether the next transfer fails depends on the parameters and the environment alone. -/
theorem spiErrNow_congr {s t : State} (hc : s.cfg = t.cfg) (he : s.env = t.env) : spiErrNow s = spiErrNow t := by
  simp [spiErrNow, hc, he]

/-- The chip's next answer depends on the environment alone. -/
theorem chipAnswer_congr {s t : State} (he : s.env = t.env) : chipAnswer s = chipAnswer t := by
  simp [chipAnswer, he]

/-- The chip's next answer is number 0 of the coming ones. -/
theorem chipAnswer_spec (s : State) : chipAnswer s = answer s 0 := rfl

/-- The coming answers after a stretch of the bus history. -/
theorem answer_afterBus (s : State) (l : List BusEvent) (j : Nat) :
    answer (afterBus s l) j = answer s (l.countP isRead + j) := by
  simp [answer, afterBus, Nat.add_assoc]

/-- A register write as an action: IoError at this transfer, or the next action (R102, R104). -/
theorem writeAct_spec (reg : Config.RegMap → ChipAddr) (val : State → Byte) (upd : State → State) (s : State) :
    writeAct reg val upd s =
      if spiErrNow s then .ioErr (afterBus s [.write (reg s.cfg.regmap) (val s)])
      else .step (upd (afterBus s [.write (reg s.cfg.regmap) (val s)])) := by
  simp only [writeAct, afterTransfer, memWrite_spec]
  rfl

/-- A register read as an action (R101, R104). -/
theorem readAct_spec (reg : Config.RegMap → ChipAddr) (store : Byte → State → State) (s : State) :
    readAct reg store s =
      if spiErrNow s then .ioErr (afterBus s [.read (reg s.cfg.regmap) (chipAnswer s)])
      else .step (store (chipAnswer s) (afterBus s [.read (reg s.cfg.regmap) (chipAnswer s)])) := by
  simp only [readAct, afterTransfer, memRead_spec]
  rfl

/-- OpMode(m) as an action (R140). -/
theorem opModeAct_spec (m : Mode) (upd : State → State) (s : State) :
    opModeAct m upd s =
      if spiErrNow s then .ioErr (afterBus s [.write s.cfg.regmap.opMode (opModeByte m)])
      else .step (upd (setMode m (afterBus s [.write s.cfg.regmap.opMode (opModeByte m)]))) := by
  simp [opModeAct, writeAct_spec]

/-! ### Replies -/

/-- A Reply completes with its updates, or holds (R221). -/
theorem replyWith_spec (op : Byte) (st : Status) (v : Half) (upd : State → State) (s : State) :
    replyWith op st v upd s = if canReply s then .done (respond op st v (upd s)) else .hold := rfl

/-- A check passes with no effect, or ends the command with its status (R222). -/
theorem need_spec (ok : State → Bool) (op : Byte) (st : Status) (s : State) :
    need ok op st s =
      if ok s then .step s else if canReply s then .done (respond op st 0 s) else .hold := by
  simp [need, replyWith_spec]

/-- A host command's response goes to RSPQ. -/
theorem respond_toHost (op : Byte) (st : Status) (v : Half) (s : State) (h : s.eng.origin = .host) :
    respond op st v s = { s with rspq := s.rspq ++ [⟨st, op, v⟩] } := by
  simp [respond, h]

/-- An echo call's reply goes to RPL. -/
theorem respond_toCall (op : Byte) (st : Status) (v : Half) (s : State) (sess : Word)
    (h : s.eng.origin = .echo sess) : respond op st v s = { s with rpl := ⟨true, st, sess⟩ } := by
  simp [respond, h]

/-- Whether a Reply can complete depends on the origin, RSPQ and its depth. -/
theorem canReply_congr {s t : State} (ho : s.eng.origin = t.eng.origin) (hr : s.rspq = t.rspq)
    (hc : s.cfg = t.cfg) : canReply s = canReply t := by
  simp [canReply, ho, hr, hc]

/-! ### Events -/

/-- Everything the host's copy of an event can do (R175). -/
theorem postEvt_cases (e : Event) (s : State) :
    (s.subs.host = 0 ∧ postEvt e s = s) ∨
    (s.subs.host ≠ 0 ∧ s.evtq.length < s.cfg.evtqDepth ∧ postEvt e s = { s with evtq := s.evtq ++ [⟨e, s.subs.host⟩] }) ∨
    (s.subs.host ≠ 0 ∧ s.cfg.evtqDepth ≤ s.evtq.length ∧
      postEvt e s = { s with host := { s.host with evtOvf := true } }) := by
  by_cases h : s.subs.host = 0
  · exact .inl ⟨h, by simp [postEvt, h]⟩
  · by_cases h2 : s.evtq.length < s.cfg.evtqDepth
    · exact .inr (.inl ⟨h, h2, by rw [postEvt, if_neg h, if_pos h2]⟩)
    · exact .inr (.inr ⟨h, by omega, by rw [postEvt, if_neg h, if_neg h2]⟩)

/-- Everything PostEQ can do (R197). -/
theorem postEq_cases (e : Event) (s : State) :
    (e.kind = .rxFrame ∧ s.eq.length + 2 ≤ s.cfg.eqDepth ∧
      postEq e s = { s with eq := s.eq ++ [⟨.rxFrame, s.ectl.session, e.bytes⟩] }) ∨
    (e.kind = .rxFrame ∧ s.cfg.eqDepth < s.eq.length + 2 ∧
      postEq e s = { s with host := { s.host with echoEvtOvf := true } }) ∨
    (e.kind ≠ .rxFrame ∧ s.eq.length < s.cfg.eqDepth ∧
      postEq e s = { s with eq := s.eq ++ [⟨e.kind, s.ectl.session, []⟩] }) ∨
    (e.kind ≠ .rxFrame ∧ s.cfg.eqDepth ≤ s.eq.length ∧
      postEq e s = { s with eq := dropNewestTx s.eq ++ [⟨e.kind, s.ectl.session, []⟩] }) := by
  rcases hk : e.kind with _ | _ | _
  · by_cases h : s.eq.length + 2 ≤ s.cfg.eqDepth
    · exact .inl ⟨rfl, h, by simp [postEq, hk, h]⟩
    · exact .inr (.inl ⟨rfl, by omega, by simp [postEq, hk, h]⟩)
  all_goals
    by_cases h : s.eq.length < s.cfg.eqDepth
    · exact .inr (.inr (.inl ⟨by simp, h, by simp [postEq, hk, h]⟩))
    · exact .inr (.inr (.inr ⟨by simp, by omega, by simp [postEq, hk, h]⟩))

/-- Emit is the host's copy, then the sequencer's (R175). -/
theorem emit_spec (e : Event) (s : State) :
    emit e s = if s.subs.echo then postEq e (postEvt e s) else postEvt e s := by
  simp [emit]

/-- A TX entry that the newest is dropped from keeps the others; the queue is shorter by one. -/
theorem dropNewestTx_length (q : List EqEntry) (h : ∃ e ∈ q, e.kind ≠ .rxFrame) :
    (dropNewestTx q).length + 1 = q.length := by
  induction q with
  | nil => simp at h
  | cons x rest ih =>
    simp only [dropNewestTx]
    split
    · rename_i hr
      have : ∃ e ∈ rest, e.kind ≠ .rxFrame := by simpa using hr
      simp [ih this]
    · rename_i hr
      split
      · simp
      · rename_i hx
        exfalso
        obtain ⟨e, he, hk⟩ := h
        rcases List.mem_cons.mp he with h1 | h1
        · subst h1
          simp_all
        · exact hr (by simpa using ⟨e, h1, hk⟩)

/-- What is left after the newest TX entry is dropped was there before. -/
theorem mem_of_mem_dropNewestTx (q : List EqEntry) (x : EqEntry) (h : x ∈ dropNewestTx q) : x ∈ q := by
  induction q with
  | nil => simp [dropNewestTx] at h
  | cons y rest ih =>
    simp only [dropNewestTx] at h
    split at h
    · rcases List.mem_cons.mp h with h1 | h1
      · simp [h1]
      · exact List.mem_cons_of_mem _ (ih h1)
    · split at h
      · exact List.mem_cons_of_mem _ h
      · rcases List.mem_cons.mp h with h1 | h1
        · simp [h1]
        · exact List.mem_cons_of_mem _ (ih h1)

/-! ### The engine's run -/

@[simp] theorem stepAt_zero (prog : List Act) : stepAt prog 0 = none := rfl
@[simp] theorem stepAt_succ (prog : List Act) (k : Nat) : stepAt prog (k + 1) = prog[k]? := rfl

@[simp] theorem runActs_zero (op : Option Byte) (prog : List Act) (m : Msg) (k : Nat) (s : State) :
    runActs op prog m 0 k s = .next (setPc (.run m k) s) := rfl

/-- An action that is done, and the next step. -/
theorem runActs_step {op : Option Byte} {prog : List Act} {m : Msg} {n k : Nat} {s s' : State} {a : Act}
    (ha : stepAt prog k = some a) (h : a s = .step s') :
    runActs op prog m (n + 1) k s = runActs op prog m n (k + 1) s' := by
  simp [runActs, ha, h]

/-- An action that is done, and a jump. -/
theorem runActs_goto {op : Option Byte} {prog : List Act} {m : Msg} {n k j : Nat} {s s' : State} {a : Act}
    (ha : stepAt prog k = some a) (h : a s = .goto j s') :
    runActs op prog m (n + 1) k s = runActs op prog m n j s' := by
  simp [runActs, ha, h]

/-- An action that is not enabled: the run stops at it, with any quantum. -/
theorem runActs_hold {op : Option Byte} {prog : List Act} {m : Msg} {n k : Nat} {s : State} {a : Act}
    (ha : stepAt prog k = some a) (h : a s = .hold) :
    runActs op prog m n k s = .next (setPc (.run m k) s) := by
  cases n with
  | zero => rfl
  | succ n => simp [runActs, ha, h]

/-- The last action of a message. -/
theorem runActs_done {op : Option Byte} {prog : List Act} {m : Msg} {n k : Nat} {s s' : State} {a : Act}
    (ha : stepAt prog k = some a) (h : a s = .done s') :
    runActs op prog m (n + 1) k s = .next (setPc .idle s') := by
  simp [runActs, ha, h]

/-- An action whose transfer fails. -/
theorem runActs_ioErr {op : Option Byte} {prog : List Act} {m : Msg} {n k : Nat} {s s' : State} {a : Act}
    (ha : stepAt prog k = some a) (h : a s = .ioErr s') :
    runActs op prog m (n + 1) k s = .next (ioErrorStep op m s') := by
  simp [runActs, ha, h]

/-- The induction over an engine run, once: a property of (step number, state) that every action keeps, and that the
run's stopping points turn into `Q`, gives `Q` of the state the run answers. -/
theorem runActs_induct {op : Option Byte} {prog : List Act} {m : Msg} (I : Nat → State → Prop) (Q : State → Prop)
    (hstop : ∀ k s, I k s → Q (setPc (.run m k) s))
    (hstep : ∀ k a s s', stepAt prog k = some a → I k s → a s = .step s' → I (k + 1) s')
    (hgoto : ∀ k a s j s', stepAt prog k = some a → I k s → a s = .goto j s' → I j s')
    (hdone : ∀ k a s s', stepAt prog k = some a → I k s → a s = .done s' → Q (setPc .idle s'))
    (herr : ∀ k a s s', stepAt prog k = some a → I k s → a s = .ioErr s' → Q (ioErrorStep op m s')) :
    ∀ (n k : Nat) (s t : State), I k s → runActs op prog m n k s = .next t → Q t := by
  intro n
  induction n with
  | zero =>
    intro k s t hI h
    simp only [runActs_zero, Host.Outcome.next.injEq] at h
    exact h ▸ hstop k s hI
  | succ n ih =>
    intro k s t hI h
    simp only [runActs] at h
    split at h
    · cases h
    · rename_i a ha
      split at h
      · rename_i s' hs
        exact ih _ _ _ (hstep k a s s' ha hI hs) h
      · rename_i j s' hs
        exact ih _ _ _ (hgoto k a s j s' ha hI hs) h
      · simp only [Host.Outcome.next.injEq] at h
        exact h ▸ hstop k s hI
      · rename_i s' hs
        simp only [Host.Outcome.next.injEq] at h
        exact h ▸ hdone k a s s' ha hI hs
      · rename_i s' hs
        simp only [Host.Outcome.next.injEq] at h
        exact h ▸ herr k a s s' ha hI hs
      · cases h

/-- Everything the engine's turn on a message can do: nothing to take, a run from the taken message, a run from where
it stands, or the IoError step. -/
theorem runMessage_cases (op : Option Byte) (prog : List Act) (s : State) :
    (s.eng.pc = .idle ∧ s.inq = [] ∧ runMessage op prog s = .next s) ∨
    (∃ m rest, s.eng.pc = .idle ∧ s.inq = m :: rest ∧
      runMessage op prog s = runActs op prog m s.env.quantum 1 (take m rest s)) ∨
    (∃ m k, s.eng.pc = .run m k ∧ runMessage op prog s = runActs op prog m s.env.quantum k s) ∨
    (∃ m, s.eng.pc = .failed m ∧
      runMessage op prog s = .next (if s.env.quantum = 0 then s else ioErrorStep op m s)) := by
  rcases hp : s.eng.pc with _ | ⟨m, k⟩ | m
  · rcases hq : s.inq with _ | ⟨m, rest⟩
    · exact .inl ⟨rfl, rfl, by simp [runMessage, hp, hq]⟩
    · exact .inr (.inl ⟨m, rest, rfl, rfl, by simp [runMessage, hp, hq]⟩)
  · exact .inr (.inr (.inl ⟨m, k, rfl, by simp [runMessage, hp]⟩))
  · refine .inr (.inr (.inr ⟨m, rfl, ?_⟩))
    simp only [runMessage, hp]
    split <;> rfl

/-- A message that runs goes on at its step. -/
theorem runMessage_run {op : Option Byte} {prog : List Act} {s : State} {m : Msg} {k : Nat}
    (h : s.eng.pc = .run m k) : runMessage op prog s = runActs op prog m s.env.quantum k s := by
  simp [runMessage, h]

/-- The IoError step is taken whole, or held with nothing of it done (R221, R226). -/
theorem ioErrorStep_cases (op : Option Byte) (m : Msg) (s : State) :
    (ioErrorReady op s = true ∧ ioErrorStep op m s = ioErrorEffect op s) ∨
    (ioErrorReady op s = false ∧ ioErrorStep op m s = setPc (.failed m) s) := by
  by_cases h : ioErrorReady op s = true
  · exact .inl ⟨h, by simp [ioErrorStep, h]⟩
  · exact .inr ⟨by simpa using h, by simp [ioErrorStep, h]⟩

/-- What IoError leaves of the engine (R226). -/
theorem ioErrorEffect_eng (op : Option Byte) (s : State) :
    (ioErrorEffect op s).eng =
      { s.eng with pc := .idle, handles := false, connected := false, mode := .unknown } := by
  cases op <;> simp only [ioErrorEffect]
  · cases h : s.eng.handles <;> simp [closeIfOpen, h, closeHandles, release, record, setPin, cancelRxSingle]
  · split <;> cases h : s.eng.handles <;>
      simp [closeIfOpen, h, closeHandles, release, record, setPin, cancelRxSingle]

end Sys2Proof.Machine
end

