-- ==== Sys2Proof/Laws/Decode.lean ====
section
/-! SUPPORT. What each field of a command word reads from an encoded one. -/

namespace Sys2Proof

/-- OP of an encoded word. -/
@[simp] theorem opField_cmdWord (op sub : Byte) (arg : Word) : opField (cmdWord op sub arg) = op := by
  apply BitVec.eq_of_getLsbD_eq
  intro i hi
  simp only [opField, cmdWord, BitVec.getLsbD_extractLsb', BitVec.getLsbD_append, hi, decide_true, Bool.true_and,
    BitVec.ofNat_eq_ofNat]
  have h1 : ¬56 + i < 32 := by omega
  have h2 : ¬56 + i - 32 < 16 := by omega
  have h3 : ¬56 + i - 32 - 16 < 8 := by omega
  have h4 : 56 + i - 32 - 16 - 8 = i := by omega
  simp [h1, h2, h3, h4]

/-- SUB of an encoded word. -/
@[simp] theorem subField_cmdWord (op sub : Byte) (arg : Word) : subField (cmdWord op sub arg) = sub := by
  apply BitVec.eq_of_getLsbD_eq
  intro i hi
  simp only [subField, cmdWord, BitVec.getLsbD_extractLsb', BitVec.getLsbD_append, hi, decide_true, Bool.true_and,
    BitVec.ofNat_eq_ofNat]
  have h1 : ¬48 + i < 32 := by omega
  have h2 : ¬48 + i - 32 < 16 := by omega
  have h3 : 48 + i - 32 - 16 < 8 := by omega
  have h4 : 48 + i - 32 - 16 = i := by omega
  simp [h1, h2, h4, hi]

/-- ARG of an encoded word. -/
@[simp] theorem argField_cmdWord (op sub : Byte) (arg : Word) : argField (cmdWord op sub arg) = arg := by
  apply BitVec.eq_of_getLsbD_eq
  intro i hi
  simp only [argField, cmdWord, BitVec.getLsbD_extractLsb', BitVec.getLsbD_append, hi, decide_true, Bool.true_and,
    Nat.zero_add, if_true, BitVec.ofNat_eq_ofNat]

/-- RSV of an encoded word is 0. -/
@[simp] theorem rsv_cmdWord (op sub : Byte) (arg : Word) : (cmdWord op sub arg).extractLsb' 32 16 = 0 := by
  apply BitVec.eq_of_getLsbD_eq
  intro i hi
  simp only [cmdWord, BitVec.getLsbD_extractLsb', BitVec.getLsbD_append, hi, decide_true, Bool.true_and]
  have h1 : ¬32 + i < 32 := by omega
  have h2 : 32 + i - 32 = i := by omega
  simp only [h1, h2, hi, if_true, if_false, BitVec.ofNat_eq_ofNat, BitVec.getLsbD_zero]

end Sys2Proof
end

