-- ==== Sys2Proof/Laws/PerInstr.lean ====
section
/-! SUPPORT. Facts about every command, one lemma per constructor of `Instr`. -/

namespace Sys2Proof.Laws

/-- The encoded word of a command carries its opcode in OP (R82), keeps RSV 0 (R80), and its opcode is not a reserved
one (R83). -/
def OpcodeRow.Statement (i : Instr) : Prop :=
  opField (encode i) = i.opcode ∧ (encode i).extractLsb' 32 16 = 0 ∧ 1 ≤ i.opcode.toNat ∧ i.opcode.toNat ≤ 0x13

/-- BEGIN. -/
theorem OpcodeRow.begin (f : Nat) : OpcodeRow.Statement (.begin f) := by
  simp [OpcodeRow.Statement, encode, Instr.opcode]

/-- SET_FREQUENCY. -/
theorem OpcodeRow.setFrequency (f : Nat) : OpcodeRow.Statement (.setFrequency f) := by
  simp [OpcodeRow.Statement, encode, Instr.opcode]

/-- SET_SF. -/
theorem OpcodeRow.setSf (sf : Nat) : OpcodeRow.Statement (.setSf sf) := by
  simp [OpcodeRow.Statement, encode, Instr.opcode]

/-- SET_BW. -/
theorem OpcodeRow.setBw (k : Nat) : OpcodeRow.Statement (.setBw k) := by
  simp [OpcodeRow.Statement, encode, Instr.opcode]

/-- SET_CR. -/
theorem OpcodeRow.setCr (cr : Nat) : OpcodeRow.Statement (.setCr cr) := by
  simp [OpcodeRow.Statement, encode, Instr.opcode]

/-- SET_TX_POWER. -/
theorem OpcodeRow.setTxPower (p : Nat) : OpcodeRow.Statement (.setTxPower p) := by
  simp [OpcodeRow.Statement, encode, Instr.opcode]

/-- SET_SYNC_WORD. -/
theorem OpcodeRow.setSyncWord (w : Nat) : OpcodeRow.Statement (.setSyncWord w) := by
  simp [OpcodeRow.Statement, encode, Instr.opcode]

/-- TRANSMIT. -/
theorem OpcodeRow.transmit (n : Nat) : OpcodeRow.Statement (.transmit n) := by
  simp [OpcodeRow.Statement, encode, Instr.opcode]

/-- RECEIVE_MODE. -/
theorem OpcodeRow.receiveMode (t : Nat) : OpcodeRow.Statement (.receiveMode t) := by
  simp [OpcodeRow.Statement, encode, Instr.opcode]

/-- STANDBY. -/
theorem OpcodeRow.standby : OpcodeRow.Statement .standby := by
  simp [OpcodeRow.Statement, encode, Instr.opcode]

/-- SLEEP. -/
theorem OpcodeRow.sleep : OpcodeRow.Statement .sleep := by
  simp [OpcodeRow.Statement, encode, Instr.opcode]

/-- HARDWARE_RESET. -/
theorem OpcodeRow.hardwareReset : OpcodeRow.Statement .hardwareReset := by
  simp [OpcodeRow.Statement, encode, Instr.opcode]

/-- DISCONNECT. -/
theorem OpcodeRow.disconnect : OpcodeRow.Statement .disconnect := by
  simp [OpcodeRow.Statement, encode, Instr.opcode]

/-- GET_RSSI. -/
theorem OpcodeRow.getRssi : OpcodeRow.Statement .getRssi := by
  simp [OpcodeRow.Statement, encode, Instr.opcode]

/-- GET_VERSION. -/
theorem OpcodeRow.getVersion : OpcodeRow.Statement .getVersion := by
  simp [OpcodeRow.Statement, encode, Instr.opcode]

/-- SUBSCRIBE. -/
theorem OpcodeRow.subscribe (id : Nat) : OpcodeRow.Statement (.subscribe id) := by
  simp [OpcodeRow.Statement, encode, Instr.opcode]

/-- UNSUBSCRIBE. -/
theorem OpcodeRow.unsubscribe (id : Nat) : OpcodeRow.Statement (.unsubscribe id) := by
  simp [OpcodeRow.Statement, encode, Instr.opcode]

/-- ECHO_START. -/
theorem OpcodeRow.echoStart (lp ld : Bool) (delay plen : Nat) : OpcodeRow.Statement (.echoStart lp ld delay plen) := by
  simp [OpcodeRow.Statement, encode, Instr.opcode]

/-- ECHO_STOP. -/
theorem OpcodeRow.echoStop : OpcodeRow.Statement .echoStop := by
  simp [OpcodeRow.Statement, encode, Instr.opcode]

end Sys2Proof.Laws
end

