-- ==== Sys2Proof/Certificates/Slice0/Obligations.lean ====
section
/-! DEFINITION. The statements for the provers. The statements about commands are made at a message that is at its
first step; `Obligations.EngineTakesHeadOfInq` leads there and `Obligations.StepRunsDecodedMessage` leads from `step`
to `exec`. A quantum large enough for the actions named is a hypothesis (log 3);
`Obligations.EngineTurnsCompose` says that how the actions are divided into turns does not matter. -/

open Sys2Proof Sys2Proof.Machine Sys2Proof.Safety

/-! ### Encoding -/

/-- Decoding the encoded word of a well-formed command gives the command back (R80 to R82, R90). -/
def Obligations.DecodeOfEncode : Prop := ∀ i : Instr, i.wellFormed = true → decode (encode i) = .ok i

/-- Command words written out from R80, R82 and R92 decode to their commands. -/
def Obligations.KnownWordsDecode : Prop :=
  decode 0x010000003689CAC0#64 = .ok (.begin 915000000) ∧
  decode 0x030000000000000C#64 = .ok (.setSf 12) ∧
  decode 0x0800000000000002#64 = .ok (.transmit 2) ∧
  decode 0x1003000000000000#64 = .ok (.subscribe 3) ∧
  decode 0x1203000000030000#64 = .ok (.echoStart true true 0 3) ∧
  decode 0x1202000000030096#64 = .ok (.echoStart false true 150 3) ∧
  decode 0x1400000000000000#64 = .error (.reservedOpcode 0x14) ∧
  decode 0x0000000000000000#64 = .error (.reservedOpcode 0x00)

/-- A command is selected by OP alone (R82), and RSV and the fields and bits an opcode does not use have no effect on
what is decoded (R81, R90): two words with the same OP decode alike where they agree in the fields that OP uses. -/
def Obligations.DecodeReadsOnlyUsedFields : Prop :=
  ∀ w w' : CmdWord, opField w = opField w' →
    (∀ i, decode w = .ok i → i.opcode = opField w) ∧
    ((∃ i, decode w = .ok i) ↔ 1 ≤ (opField w).toNat ∧ (opField w).toNat ≤ 0x13) ∧
    ((opField w).toNat ≤ 9 → argField w = argField w' → decode w = decode w') ∧
    (0x0A ≤ (opField w).toNat → (opField w).toNat ≤ 0x0F → decode w = decode w') ∧
    (((opField w).toNat = 0x10 ∨ (opField w).toNat = 0x11) →
      w.extractLsb' 48 3 = w'.extractLsb' 48 3 → decode w = decode w') ∧
    ((opField w).toNat = 0x12 → w.extractLsb' 48 2 = w'.extractLsb' 48 2 →
      w.extractLsb' 0 24 = w'.extractLsb' 0 24 → decode w = decode w') ∧
    (0x13 ≤ (opField w).toNat → decode w = decode w')

/-! ### The engine's message loop -/

/-- The engine's turn in a step runs the message it is executing or would take: a command word is decoded and its
instruction executed, an echo call has the meaning of the command of the same OP, the tokens are handled, a reserved
opcode is answered; with nothing to run nothing happens. Around it `step` takes the turn off the environment's part
and gives the engine the turn's quantum (log 2, log 3). -/
def Obligations.StepRunsDecodedMessage : Prop :=
  ∀ (s : State) (n : Nat), nextTurn s = .eng n →
    let s' := withQuantum n (dropTurn s)
    (∀ w i, currentMsg s = some (.hcmd w) → decode w = .ok i → step s = exec i s') ∧
    (∀ w op, currentMsg s = some (.hcmd w) → decode w = .error (.reservedOpcode op) →
      step s = reservedCommand op s') ∧
    (∀ arg sess, currentMsg s = some (.ecall .receiveMode arg sess) → step s = exec (.receiveMode arg.toNat) s') ∧
    (∀ arg sess, currentMsg s = some (.ecall .transmit arg sess) → step s = exec (.transmit arg.toNat) s') ∧
    (currentMsg s = some .edge → step s = dioDispatch s') ∧
    (currentMsg s = some .rxtmo → step s = rxTimeout s') ∧
    (currentMsg s = none → step s = .next s')

/-- An idle engine takes the head of INQ, in one step that does no transfer, sets x[ORIGIN] or clears the token's flag
by the kind of the message, and goes on at the message's step 1; with INQ empty it does nothing (R115, R108). -/
def Obligations.EngineTakesHeadOfInq : Prop :=
  ∀ s : State, s.eng.pc = .idle →
    (s.inq = [] → engineTurn s = .next s) ∧
    (∀ w rest, s.inq = .hcmd w :: rest → engineTurn s = runMsg (.hcmd w)
      { s with inq := rest, eng := { s.eng with pc := .run (.hcmd w) 1, origin := .host } }) ∧
    (∀ op arg sess rest, s.inq = .ecall op arg sess :: rest → engineTurn s = runMsg (.ecall op arg sess)
      { s with inq := rest, eng := { s.eng with pc := .run (.ecall op arg sess) 1, origin := .echo sess } }) ∧
    (∀ rest, s.inq = .edge :: rest → engineTurn s = runMsg .edge
      { s with
        inq := rest
        eng := { s.eng with pc := .run .edge 1 }
        dio := { s.dio with queued := false } }) ∧
    (∀ rest, s.inq = .rxtmo :: rest → engineTurn s = runMsg .rxtmo
      { s with
        inq := rest
        eng := { s.eng with pc := .run .rxtmo 1 }
        rxs := { s.rxs with queued := false } })

/-- How the engine's actions are divided into turns does not matter: where a turn of `n` actions leaves a message
unfinished, a turn of `k` more leads where one turn of `n + k` leads (R12, log 3). -/
def Obligations.EngineTurnsCompose : Prop :=
  ∀ (m : Msg) (n k : Nat) (s t u : State), s.eng.pc ≠ .idle →
    runMsg m (withQuantum n s) = .next t → t.eng.pc ≠ .idle →
    runMsg m (withQuantum k t) = .next u → runMsg m (withQuantum (n + k) s) = .next (withQuantum (n + k) u)

/-- A reserved opcode answers INVALID_PARAM with VALUE 0 and has no other effect; with RSPQ full it holds (R83). -/
def Obligations.ReservedOpcodeAnswersInvalidParam : Prop :=
  ∀ (w : CmdWord) (s : State), (opField w = 0 ∨ 0x14 ≤ (opField w).toNat) → s.eng.pc = .run (.hcmd w) 1 →
    s.eng.origin = .host → 1 ≤ s.env.quantum →
    runMsg (.hcmd w) s =
      if s.rspq.length < s.cfg.rspqDepth then
        .next { s with rspq := s.rspq ++ [⟨.invalidParam, opField w, 0⟩], eng := { s.eng with pc := .idle } }
      else .next s

/-- A check that fails ends the command with the status of R153's table, in the table's order, and with no other
effect: no transfer, no pin change, no state change (R153, R222). -/
def Obligations.FailedCheckOnlyAnswers : Prop :=
  ∀ (i : Instr) (m : Msg) (s : State) (st : Status), s.eng.pc = .run m 1 → checkFailure i s = some st →
    canReply s = true → 2 ≤ s.env.quantum →
    exec i s = .next (answered i.opcode st 0 s)

/-- A host command that comes to its end pushes exactly one response, with its own OP and a status that R224 allows
it; until then RSPQ does not change, and while RSPQ is full the command does not end (R84, R221, R224). An echo call
never writes RSPQ and never waits for it: when it ends it fills RPL with its session and an allowed status (R203). -/
def Obligations.CommandAnswersExactlyOnce : Prop :=
  ∀ (i : Instr) (m : Msg) (k : Nat) (s t : State), s.eng.pc = .run m k → exec i s = .next t →
    (s.eng.origin = .host →
      (t.eng.pc ≠ .idle ∧ t.rspq = s.rspq) ∨
      (t.eng.pc = .idle ∧ s.rspq.length < s.cfg.rspqDepth ∧
        ∃ r, t.rspq = s.rspq ++ [r] ∧ r.op = i.opcode ∧ statusAllowed i r.status = true)) ∧
    (∀ sess, s.eng.origin = .echo sess →
      t.rspq = s.rspq ∧
      ((∃ m' k', t.eng.pc = .run m' k' ∧ t.rpl = s.rpl) ∨
       (t.eng.pc = .idle ∧ t.rpl.valid = true ∧ t.rpl.session = sess ∧ statusAllowed i t.rpl.status = true)))

/-! ### Errors of transfers -/

/-- What IoError does in its one step (R226): the handles are closed if they were open, the link is down, the
RX-single timer is off, TX_PENDING is 0; a command is answered IO_ERROR, with a TX_ERROR event if it was in its TX
wait; a token has neither. With RSPQ full a host command's IoError waits (R221; log 10). -/
def Obligations.IoErrorUndoesTheLink : Prop :=
  ∀ s : State,
    let closed : State := if s.eng.handles then
      { s with
        pins := { cs := .released, rst := .released, sclk := .released, mosi := .released }
        bus := s.bus ++ [.pin .cs .released, .pin .reset .released, .pin .mosi .released, .pin .sclk .released] }
      else s
    let down : State :=
      { closed with
        eng := { s.eng with pc := .idle, handles := false, connected := false, mode := .unknown }
        rxs := { s.rxs with cnt := 0, fired := false }
        tx := { s.tx with pending := false } }
    (∀ m, ioErrorStep none m s = down) ∧
    (∀ op m, canReply s = true → s.tx.pending = false →
      ioErrorStep (some op) m s = respond op .ioError 0 down) ∧
    (∀ op m, canReply s = true → s.tx.pending = true →
      ioErrorStep (some op) m s =
        emit { kind := .txError, status := .ioError, echoOrigin := s.eng.origin != .host, rssi := 0, snr := 0,
               bytes := [] } (respond op .ioError 0 down)) ∧
    (∀ op m, canReply s = false → ioErrorStep (some op) m s = { s with eng := { s.eng with pc := .failed m } })

/-- A message whose transfer fails ends at that transfer: the frame is in the bus history and the IoError step of R226
follows, with nothing of the rest of the message (R104). The first clause is for every transfer of every message: the
action at x[PC] is known by the one transfer it makes where none fails; a poll of the TX wait has then still cleared
its triggers (log 26). TRANSMIT's TX-mode write (step 8) is among those transfers: where it fails with TX_PENDING 0,
the clause says that no TX event is emitted. That is the model's choice (log 11, DEDUCED): it follows R167, whose setup
steps 3 to 8 emit none, where the table of R168 says "at or after the TX write". The second clause is an IoError that
had to wait for RSPQ (log 10). The others name the transfer: the first of each command, BEGIN's version read, a DIO0
dispatch's IRQ read, an RXTMO's Standby write, and the poll of the TX wait, whose IO_ERROR comes with a TX_ERROR event
(R167). -/
def Obligations.FailedTransfersEndTheMessage : Prop :=
  (∀ (m : Msg) (k : Nat) (e : BusEvent) (s u : State), s.eng.pc = .run m k → spiErrNow s = true →
    1 ≤ s.env.quantum → runMsg m (withQuantum 1 (unfailing s)) = .next u → u.bus = s.bus ++ [e] →
    isTransfer e = true →
    runMsg m s = .next (ioErrorStep (msgOpcode m) m
      (afterBus (if isTransmit m = true ∧ k = 9 then clearTriggers s else s) [e]))) ∧
  (∀ (m : Msg) (s : State), s.eng.pc = .failed m → 1 ≤ s.env.quantum →
    runMsg m s = .next (ioErrorStep (msgOpcode m) m s)) ∧
  (∀ (i : Instr) (m : Msg) (s : State), spiErrNow s = true → 1 ≤ s.env.quantum →
    (∀ op, (i = .standby ∧ op = 0x81#8) ∨ (i = .sleep ∧ op = 0x80#8) → s.eng.pc = .run m 2 →
      exec i s = .next (ioErrorStep (some i.opcode) m (afterBus s [.write s.cfg.regmap.opMode op]))) ∧
    (i = .getVersion → s.eng.pc = .run m 2 →
      exec i s = .next (ioErrorStep (some 0x0F) m (afterBus s [.read s.cfg.regmap.version (answer s 0)]))) ∧
    (i = .getRssi → s.eng.pc = .run m 2 →
      exec i s = .next (ioErrorStep (some 0x0E) m (afterBus s [.read s.cfg.regmap.rssi (answer s 0)]))) ∧
    (((∃ v, i = .setFrequency v) ∨ (∃ v, i = .setSf v) ∨ (∃ v, i = .setBw v) ∨ (∃ v, i = .setCr v) ∨
      (∃ v, i = .setTxPower v) ∨ (∃ v, i = .setSyncWord v) ∨ (∃ v, i = .transmit v) ∨ (∃ v, i = .receiveMode v)) →
      s.eng.pc = .run m 3 →
      exec i s = .next (ioErrorStep (some i.opcode) m (afterBus s [.write s.cfg.regmap.opMode 0x81]))) ∧
    (∀ f, i = .begin f → s.eng.pc = .run m 10 →
      exec i s = .next (ioErrorStep (some 0x01) m (afterBus s [.read s.cfg.regmap.version (answer s 0)]))) ∧
    (∀ n, i = .transmit n → s.eng.pc = .run m 9 → (s.tx.pollReq = true ∨ s.tx.edge = true) →
      s.tx.pending = true → canReply s = true →
      ∃ t, exec i s = .next t ∧ t.eng.pc = .idle ∧ t.eng.connected = false ∧ t.eng.handles = false ∧
        t.eng.mode = .unknown ∧ t.tx.pending = false ∧ t.work = s.work ∧ t.radio = s.radio ∧
        (∃ l, t.bus = s.bus ++ .read s.cfg.regmap.irqFlags (answer s 0) :: l ∧ ∀ x ∈ l, isTransfer x = false) ∧
        (s.eng.origin = .host → t.rspq = s.rspq ++ [⟨.ioError, 0x08, 0⟩]) ∧
        (∀ sess, s.eng.origin = .echo sess → t.rpl = ⟨true, .ioError, sess⟩) ∧
        (s.subs.host ≠ 0 → s.evtq.length < s.cfg.evtqDepth →
          t.evtq = s.evtq ++ [⟨{ kind := .txError, status := .ioError, echoOrigin := s.eng.origin != .host, rssi := 0,
                                 snr := 0, bytes := [] }, s.subs.host⟩]))) ∧
  (∀ s : State, spiErrNow s = true → 1 ≤ s.env.quantum →
    (s.eng.pc = .run .edge 2 → runMsg .edge s =
      .next (ioErrorStep none .edge (afterBus s [.read s.cfg.regmap.irqFlags (answer s 0)]))) ∧
    (s.eng.pc = .run .rxtmo 1 → s.rxs.fired = true → runMsg .rxtmo s =
      .next (ioErrorStep none .rxtmo (afterBus s [.write s.cfg.regmap.opMode 0x81]))))

/-! ### The setters -/

/-- SET_FREQUENCY with its checks passed and no transfer error completes: Standby, the three Frf bytes from the most
significant, the shadow, the reply; nothing else changes (R125, R65, R124, R140). -/
def Obligations.SetFrequencyCompletes : Prop :=
  ∀ (f : Nat) (m : Msg) (s : State), s.eng.pc = .run m 1 → s.eng.connected = true →
    137000000 ≤ f → f ≤ 1020000000 → canReply s = true → noSpiErr s 4 → 7 ≤ s.env.quantum →
    let frf := (f * 16384 + 500000) / 1000000
    let r := s.cfg.regmap
    exec (.setFrequency f) s = .next (answered 0x02 .ok 0
      { setMode .standby (afterBus s
          [.write r.opMode 0x81, .write r.frfMsb (BitVec.ofNat 8 (frf / 65536)),
           .write r.frfMid (BitVec.ofNat 8 (frf / 256)), .write r.frfLsb (BitVec.ofNat 8 frf)]) with
        radio := { s.radio with freq := BitVec.ofNat 32 f } })

/-- SET_SF completes: Standby, modem-config-2 with the factor in its high nibble, the detection constants, and for
SF 6 the implicit-header bit of modem-config-1; the shadow and the reply; nothing else changes but x[W_V] (R126, R127). -/
def Obligations.SetSfCompletes : Prop :=
  ∀ (sf : Nat) (m : Msg) (s : State), s.eng.pc = .run m 1 → s.eng.connected = true → canReply s = true →
    noSpiErr s 7 → 10 ≤ s.env.quantum →
    let r := s.cfg.regmap
    (7 ≤ sf → sf ≤ 12 →
      exec (.setSf sf) s = .next (answered 0x03 .ok 0
        { setMode .standby (afterBus s
            [.write r.opMode 0x81, .read r.modemConfig2 (answer s 0),
             .write r.modemConfig2 ((answer s 0 &&& 0x0F) ||| (BitVec.ofNat 8 sf <<< 4)),
             .write r.detectionOptimize 0xC3, .write r.detectionThreshold 0x0A]) with
          work := { s.work with v := answer s 0 }
          radio := { s.radio with sf := BitVec.ofNat 4 sf } })) ∧
    (sf = 6 →
      exec (.setSf sf) s = .next (answered 0x03 .ok 0
        { setMode .standby (afterBus s
            [.write r.opMode 0x81, .read r.modemConfig2 (answer s 0),
             .write r.modemConfig2 ((answer s 0 &&& 0x0F) ||| 0x60),
             .write r.detectionOptimize 0xC5, .write r.detectionThreshold 0x0C,
             .read r.modemConfig1 (answer s 1), .write r.modemConfig1 (answer s 1 ||| 0x01)]) with
          work := { s.work with v := answer s 1 }
          radio := { s.radio with sf := 6, implicitHdr := true } }))

/-- SET_BW and SET_CR complete: Standby, modem-config-1 with the bandwidth index in its high nibble, or the coding
rate in bits 3:1, and its other bits as read; the shadow and the reply; nothing else changes but x[W_V] (R129, R130). -/
def Obligations.SetBwAndSetCrComplete : Prop :=
  ∀ (v : Nat) (m : Msg) (s : State), s.eng.pc = .run m 1 → s.eng.connected = true → canReply s = true →
    noSpiErr s 3 → 6 ≤ s.env.quantum →
    let r := s.cfg.regmap
    (v ≤ 9 →
      exec (.setBw v) s = .next (answered 0x04 .ok 0
        { setMode .standby (afterBus s
            [.write r.opMode 0x81, .read r.modemConfig1 (answer s 0),
             .write r.modemConfig1 ((answer s 0 &&& 0x0F) ||| (BitVec.ofNat 8 v <<< 4))]) with
          work := { s.work with v := answer s 0 }
          radio := { s.radio with bw := BitVec.ofNat 4 v } })) ∧
    (5 ≤ v → v ≤ 8 →
      exec (.setCr v) s = .next (answered 0x05 .ok 0
        { setMode .standby (afterBus s
            [.write r.opMode 0x81, .read r.modemConfig1 (answer s 0),
             .write r.modemConfig1 ((answer s 0 &&& 0xF1) ||| (BitVec.ofNat 8 (v - 4) <<< 1))]) with
          work := { s.work with v := answer s 0 }
          radio := { s.radio with cr := BitVec.ofNat 4 v } }))

/-- SET_TX_POWER and SET_SYNC_WORD complete: Standby, then PA-DAC, OCP and PA-config by the table with its boundary
at 17 and 18, or the sync word; the shadow and the reply; nothing else changes (R131, R132). -/
def Obligations.SetTxPowerAndSyncWordComplete : Prop :=
  ∀ (v : Nat) (m : Msg) (s : State), s.eng.pc = .run m 1 → s.eng.connected = true → canReply s = true →
    noSpiErr s 4 → 7 ≤ s.env.quantum →
    let r := s.cfg.regmap
    (2 ≤ v → v ≤ 17 →
      exec (.setTxPower v) s = .next (answered 0x06 .ok 0
        { setMode .standby (afterBus s
            [.write r.opMode 0x81, .write r.paDac 0x84, .write r.ocp 0x2B,
             .write r.paConfig (0x80 ||| BitVec.ofNat 8 (v - 2))]) with
          radio := { s.radio with txPwr := BitVec.ofNat 5 v } })) ∧
    (18 ≤ v → v ≤ 20 →
      exec (.setTxPower v) s = .next (answered 0x06 .ok 0
        { setMode .standby (afterBus s
            [.write r.opMode 0x81, .write r.paDac 0x87, .write r.ocp 0x3F,
             .write r.paConfig (0x80 ||| BitVec.ofNat 8 (v - 5))]) with
          radio := { s.radio with txPwr := BitVec.ofNat 5 v } })) ∧
    (v ≤ 255 →
      exec (.setSyncWord v) s = .next (answered 0x07 .ok 0
        { setMode .standby (afterBus s [.write r.opMode 0x81, .write r.syncWord (BitVec.ofNat 8 v)]) with
          radio := { s.radio with sync := BitVec.ofNat 8 v } }))

/-- The exact round-trip law of the Frf computation, and its range, for every legal frequency (R135, R124). -/
def Obligations.FrfErrsByHalfAStep : Prop :=
  ∀ f : Nat, freqOk f = true →
    ((frf f : Int) * 1000000 - (f : Int) * 16384).natAbs ≤ 500000 ∧ 0x224000 ≤ frf f ∧ frf f ≤ 0xFF0000 ∧
    (frfMsb f ++ frfMid f ++ frfLsb f).toNat = frf f

/-! ### Modes, reset, queries, subscription -/

/-- STANDBY and SLEEP: not connected, they answer NOT_CONNECTED and do nothing else; connected, they write the mode,
which cancels an RX-single timer, and answer OK (R141, R142, R140). -/
def Obligations.StandbyAndSleepComplete : Prop :=
  ∀ (m : Msg) (s : State), s.eng.pc = .run m 1 → canReply s = true → noSpiErr s 1 → 3 ≤ s.env.quantum →
    (s.eng.connected = false →
      exec .standby s = .next (answered 0x0A .notConnected 0 s) ∧
      exec .sleep s = .next (answered 0x0B .notConnected 0 s)) ∧
    (s.eng.connected = true →
      exec .standby s = .next (answered 0x0A .ok 0
        { afterBus s [.write s.cfg.regmap.opMode 0x81] with
          eng := { s.eng with mode := .standby }
          rxs := { s.rxs with cnt := 0, fired := false } }) ∧
      exec .sleep s = .next (answered 0x0B .ok 0
        { afterBus s [.write s.cfg.regmap.opMode 0x80] with
          eng := { s.eng with mode := .sleep }
          rxs := { s.rxs with cnt := 0, fired := false } }))

/-- RECEIVE_MODE completes: Standby, FIFO pointer, IRQ clear, DIO mapping, then RXCONT for t = 0, or RXSINGLE with the
RX-single timer loaded with t + 1; the reply; nothing else changes (R143). -/
def Obligations.ReceiveModeCompletes : Prop :=
  ∀ (t : Nat) (m : Msg) (s : State), s.eng.pc = .run m 1 → s.eng.connected = true → canReply s = true →
    noSpiErr s 5 → 8 ≤ s.env.quantum → t ≤ 65535 →
    let r := s.cfg.regmap
    let first : List BusEvent :=
      [.write r.opMode 0x81, .write r.fifoAddrPtr 0x00, .write r.irqFlags 0xFF, .write r.dioMapping1 0x00]
    exec (.receiveMode t) s = .next (answered 0x09 .ok 0
      (if t = 0 then
        { afterBus s (first ++ [.write r.opMode 0x85]) with
          eng := { s.eng with mode := .rxCont }
          rxs := { s.rxs with cnt := 0, fired := false } }
       else
        { afterBus s (first ++ [.write r.opMode 0x86]) with
          eng := { s.eng with mode := .rxSingle }
          rxs := { s.rxs with cnt := BitVec.ofNat 17 (t + 1), fired := false } }))

/-- HARDWARE_RESET runs in three stretches, each ended by a wait of 10 ms: reset_n_o low, reset_n_o high, then the
mode unknown, the RX-single timer off and the reply. It makes no transfer and changes nothing else (R146, R110). -/
def Obligations.HardwareResetCompletes : Prop :=
  ∀ (m : Msg) (s : State), 4 ≤ s.env.quantum →
    (s.eng.pc = .run m 1 → s.eng.connected = true →
      exec .hardwareReset s = .next
        { s with
          pins := { s.pins with rst := .driven false }
          bus := s.bus ++ [.pin .reset (.driven false)]
          eng := { s.eng with pc := .run m 4, waitCnt := 11 } }) ∧
    (s.eng.pc = .run m 4 → s.eng.waitCnt = 0 →
      exec .hardwareReset s = .next
        { s with
          pins := { s.pins with rst := .driven true }
          bus := s.bus ++ [.pin .reset (.driven true)]
          eng := { s.eng with pc := .run m 7, waitCnt := 11 } }) ∧
    (s.eng.pc = .run m 7 → s.eng.waitCnt = 0 → canReply s = true →
      exec .hardwareReset s = .next (answered 0x0C .ok 0
        { s with
          eng := { s.eng with mode := .unknown }
          rxs := { s.rxs with cnt := 0, fired := false } })) ∧
    (∀ k, k = 4 ∨ k = 7 → s.eng.pc = .run m k → s.eng.waitCnt ≠ 0 → exec .hardwareReset s = .next s)

/-- DISCONNECT, in one step and whatever the state: the handles are closed if they are open, the link is down, the
RX-single timer is off, the reply is OK; nothing else changes (R147, R105). -/
def Obligations.DisconnectCompletes : Prop :=
  ∀ (m : Msg) (s : State), s.eng.pc = .run m 1 → canReply s = true → 1 ≤ s.env.quantum →
    let down : State :=
      { s with
        eng := { s.eng with handles := false, connected := false, mode := .unknown }
        rxs := { s.rxs with cnt := 0, fired := false } }
    exec .disconnect s = .next (answered 0x0D .ok 0
      (if s.eng.handles then
        { down with
          pins := { cs := .released, rst := .released, sclk := .released, mosi := .released }
          bus := s.bus ++ [.pin .cs .released, .pin .reset .released, .pin .mosi .released, .pin .sclk .released] }
       else down))

/-- GET_VERSION and GET_RSSI complete: one read, no mode write; VALUE is the version zero-extended, or the raw RSSI
minus 157 as a 16-bit two's-complement value (R148, R149). -/
def Obligations.QueriesComplete : Prop :=
  ∀ (m : Msg) (s : State), s.eng.pc = .run m 1 → s.eng.connected = true → canReply s = true → noSpiErr s 1 →
    3 ≤ s.env.quantum →
    exec .getVersion s = .next (answered 0x0F .ok (BitVec.ofNat 16 (answer s 0).toNat)
      { afterBus s [.read s.cfg.regmap.version (answer s 0)] with work := { s.work with v := answer s 0 } }) ∧
    exec .getRssi s = .next (answered 0x0E .ok (BitVec.ofInt 16 ((answer s 0).toNat - 157))
      { afterBus s [.read s.cfg.regmap.rssi (answer s 0)] with work := { s.work with v := answer s 0 } })

/-- SUBSCRIBE and UNSUBSCRIBE complete in every state: bit `id` of x[HOST_SUBS] is set or cleared, the other bits and
everything else stay, and the reply is OK (R150, R151). -/
def Obligations.SubscriptionCompletes : Prop :=
  ∀ (id : Nat) (m : Msg) (s : State), id < 8 → s.eng.pc = .run m 1 → canReply s = true → 1 ≤ s.env.quantum →
    ∃ on off : Byte,
      (∀ j, j < 8 → on.getLsbD j = if j = id then true else s.subs.host.getLsbD j) ∧
      (∀ j, j < 8 → off.getLsbD j = if j = id then false else s.subs.host.getLsbD j) ∧
      exec (.subscribe id) s = .next (answered 0x10 .ok 0 { s with subs := { s.subs with host := on } }) ∧
      exec (.unsubscribe id) s = .next (answered 0x11 .ok 0 { s with subs := { s.subs with host := off } })

/-! ### BEGIN -/

/-- BEGIN up to its third wait: the checks, OpenHandles and reset_n_o low, a wait; reset_n_o high, a wait; the version
read once, accepted when it is 0x12, the Sleep write, a wait. A wait holds while x[WAIT_CNT] is not 0 (R120, R105,
R110, R121). -/
def Obligations.BeginOpensAndResetsTheChip : Prop :=
  ∀ (f : Nat) (m : Msg) (s : State), 5 ≤ s.env.quantum →
    (s.eng.pc = .run m 1 → s.eng.connected = false → freqOk f = true →
      exec (.begin f) s = .next
        { s with
          pins := { cs := .driven true, rst := .driven false, sclk := .driven false, mosi := .driven false }
          bus := s.bus ++ [.pin .sclk (.driven false), .pin .mosi (.driven false), .pin .reset (.driven false),
            .pin .cs (.driven true), .pin .reset (.driven false)]
          dio := { s.dio with prev := s.dio.sync1 }
          eng := { s.eng with pc := .run m 6, handles := true, waitCnt := 11 } }) ∧
    (s.eng.pc = .run m 6 → s.eng.waitCnt = 0 →
      exec (.begin f) s = .next
        { s with
          pins := { s.pins with rst := .driven true }
          bus := s.bus ++ [.pin .reset (.driven true)]
          eng := { s.eng with pc := .run m 9, waitCnt := 11 } }) ∧
    (s.eng.pc = .run m 9 → s.eng.waitCnt = 0 → answer s 0 = 0x12 → noSpiErr s 2 →
      exec (.begin f) s = .next
        { afterBus s [.read s.cfg.regmap.version 0x12, .write s.cfg.regmap.opMode 0x80] with
          eng := { s.eng with pc := .run m 14, mode := .sleep, waitCnt := 11 }
          rxs := { s.rxs with cnt := 0, fired := false }
          work := { s.work with v := 0x12 } }) ∧
    (∀ k, k = 6 ∨ k = 9 ∨ k = 14 → s.eng.pc = .run m k → s.eng.waitCnt ≠ 0 → exec (.begin f) s = .next s)

/-- BEGIN from its third wait on: the 32 transfers that set frequency, FIFO bases, LNA, modem-config-3 and the
defaults, in the order of R120 and R133, then Standby; with the reply, connected and the shadow of R123. -/
def Obligations.BeginConfiguresAndConnects : Prop :=
  ∀ (f : Nat) (m : Msg) (s : State), s.eng.pc = .run m 14 → s.eng.waitCnt = 0 → canReply s = true →
    noSpiErr s 32 → 34 ≤ s.env.quantum →
    let r := s.cfg.regmap
    let a := answer s
    let frf := (f * 16384 + 500000) / 1000000
    exec (.begin f) s = .next (answered 0x01 .ok 0
      { afterBus s
          [.write r.frfMsb (BitVec.ofNat 8 (frf / 65536)), .write r.frfMid (BitVec.ofNat 8 (frf / 256)),
           .write r.frfLsb (BitVec.ofNat 8 frf), .write r.fifoTxBase 0x00, .write r.fifoRxBase 0x00,
           .read r.lna (a 0), .write r.lna (a 0 ||| 0x03), .write r.modemConfig3 0x04,
           .write r.opMode 0x81, .write r.paDac 0x84, .write r.ocp 0x2B, .write r.paConfig 0x8C,
           .write r.opMode 0x81, .read r.modemConfig2 (a 1), .write r.modemConfig2 ((a 1 &&& 0x0F) ||| 0x70),
           .write r.detectionOptimize 0xC3, .write r.detectionThreshold 0x0A,
           .write r.opMode 0x81, .read r.modemConfig1 (a 2), .write r.modemConfig1 ((a 2 &&& 0x0F) ||| 0x70),
           .write r.opMode 0x81, .read r.modemConfig1 (a 3), .write r.modemConfig1 ((a 3 &&& 0xF1) ||| 0x02),
           .read r.modemConfig2 (a 4), .write r.modemConfig2 (a 4 ||| 0x04),
           .read r.modemConfig1 (a 5), .write r.modemConfig1 (a 5 &&& 0xFE),
           .write r.preambleMsb 0x00, .write r.preambleLsb 0x08,
           .write r.opMode 0x81, .write r.syncWord 0x34, .write r.opMode 0x81] with
        eng := { s.eng with connected := true, mode := .standby }
        rxs := { s.rxs with cnt := 0, fired := false }
        work := { s.work with v := a 5 }
        radio := { freq := BitVec.ofNat 32 f, sf := 7, bw := 7, cr := 5, txPwr := 14, sync := 0x34, preamble := 8,
                   crcOn := true, implicitHdr := false } })

/-- BEGIN on a chip whose version is not 0x12: one version read, the handles closed, the mode unknown, the response
INVALID_CHIP with the version read; connected and the shadow do not change (R122, R121, R105). -/
def Obligations.BeginRejectsAnotherChip : Prop :=
  ∀ (f : Nat) (m : Msg) (s : State), s.eng.pc = .run m 9 → s.eng.waitCnt = 0 → answer s 0 ≠ 0x12 → noSpiErr s 1 →
    canReply s = true → 3 ≤ s.env.quantum →
    exec (.begin f) s = .next (answered 0x01 .invalidChip (BitVec.ofNat 16 (answer s 0).toNat)
      { afterBus s [.read s.cfg.regmap.version (answer s 0), .pin .cs .released, .pin .reset .released,
          .pin .mosi .released, .pin .sclk .released] with
        pins := { cs := .released, rst := .released, sclk := .released, mosi := .released }
        eng := { s.eng with handles := false, mode := .unknown }
        work := { s.work with v := answer s 0 } })

/-! ### TRANSMIT -/

/-- TRANSMIT up to its wait: Standby, FIFO pointer, one FIFO write for each payload byte in increasing order, length,
IRQ clear, TX mode with the wait entered. The bytes are TXBUF's for a host command and x[E_BUF]'s for an echo call
(R160 to R163). -/
def Obligations.TransmitSetsUpAndWaits : Prop :=
  ∀ (n : Nat) (m : Msg) (s : State), s.eng.pc = .run m 1 → s.eng.connected = true → 1 ≤ n → n ≤ 255 →
    noSpiErr s (n + 5) → n + 7 ≤ s.env.quantum →
    let r := s.cfg.regmap
    let byte : Nat → Byte := fun i =>
      match s.eng.origin with
      | .host => txByte s i
      | .echo _ => s.eseq.buf.getD i 0
    exec (.transmit n) s = .next
      { afterBus s ([.write r.opMode 0x81, .write r.fifoAddrPtr 0x00] ++
          (List.range n).map (fun i => .write r.fifo (byte i)) ++
          [.write r.payloadLength (BitVec.ofNat 8 n), .write r.irqFlags 0xFF, .write r.opMode 0x83]) with
        eng := { s.eng with pc := .run m 9, mode := .tx }
        rxs := { s.rxs with cnt := 0, fired := false }
        work := { s.work with i := BitVec.ofNat 9 n }
        tx := { pending := true, ticks := 0, pollReq := false, edge := false } }

/-- A poll of the TX wait that reads TX_DONE ends the TRANSMIT with OK, whatever the tick count: the flag is cleared,
Standby is written, TX_PENDING is 0, and the reply and the TX_DONE event come in one step (R164, R165). -/
def Obligations.TransmitEndsOk : Prop :=
  ∀ (n : Nat) (m : Msg) (s : State), s.eng.pc = .run m 9 → (s.tx.pollReq = true ∨ s.tx.edge = true) →
    answer s 0 &&& 0x08 ≠ 0 → noSpiErr s 3 → canReply s = true → 4 ≤ s.env.quantum →
    exec (.transmit n) s = .next (answered 0x08 .ok 0
      (emit { kind := .txDone, status := .ok, echoOrigin := s.eng.origin != .host, rssi := 0, snr := 0, bytes := [] }
        { afterBus s [.read s.cfg.regmap.irqFlags (answer s 0), .write s.cfg.regmap.irqFlags 0x08,
            .write s.cfg.regmap.opMode 0x81] with
          eng := { s.eng with mode := .standby }
          rxs := { s.rxs with cnt := 0, fired := false }
          work := { s.work with irq := answer s 0 }
          tx := { s.tx with pending := false, pollReq := false, edge := false } }))

/-- The TX wait holds without a trigger; a poll that does not read TX_DONE waits again before tick 5000, and from tick
5000 on ends the TRANSMIT with TIMEOUT and a TX_ERROR event, the IRQ flags not written (R164, R166). -/
def Obligations.TransmitPollsAndTimesOut : Prop :=
  ∀ (n : Nat) (m : Msg) (s : State), s.eng.pc = .run m 9 → 3 ≤ s.env.quantum →
    (s.tx.pollReq = false → s.tx.edge = false → exec (.transmit n) s = .next s) ∧
    ((s.tx.pollReq = true ∨ s.tx.edge = true) → answer s 0 &&& 0x08 = 0 → s.tx.ticks.toNat < 5000 → noSpiErr s 1 →
      exec (.transmit n) s = .next
        { afterBus s [.read s.cfg.regmap.irqFlags (answer s 0)] with
          work := { s.work with irq := answer s 0 }
          tx := { s.tx with pollReq := false, edge := false } }) ∧
    ((s.tx.pollReq = true ∨ s.tx.edge = true) → answer s 0 &&& 0x08 = 0 → 5000 ≤ s.tx.ticks.toNat → noSpiErr s 2 →
      canReply s = true →
      exec (.transmit n) s = .next (answered 0x08 .timeout 0
        (emit { kind := .txError, status := .timeout, echoOrigin := s.eng.origin != .host, rssi := 0, snr := 0,
                bytes := [] }
          { afterBus s [.read s.cfg.regmap.irqFlags (answer s 0), .write s.cfg.regmap.opMode 0x81] with
            eng := { s.eng with mode := .standby }
            rxs := { s.rxs with cnt := 0, fired := false }
            work := { s.work with irq := answer s 0 }
            tx := { s.tx with pending := false, pollReq := false, edge := false } })))

/-! ### ECHO_START and ECHO_STOP -/

/-- ECHO_START completes: the first `plen` bytes of the prefix from TXBUF and its length where LOAD_PREFIX is set, the
delay where LOAD_DELAY is set, a new session, running and subscribed, and the reply; nothing else changes but x[W_I].
The session must not wrap onto x[E_SEEN] (R191; 93_implementation_defined.md U20, log 14). -/
def Obligations.EchoStartCompletes : Prop :=
  ∀ (lp ld : Bool) (delay plen : Nat) (m : Msg) (s : State), delay < 65536 → plen < 256 → s.eng.pc = .run m 1 →
    s.ectl.run = false → (lp = true → plen ≤ s.cfg.prefixMax) → s.ectl.session + 1 ≠ s.eseq.seen →
    canReply s = true → plen + 7 ≤ s.env.quantum →
    exec (.echoStart lp ld delay plen) s = .next (answered 0x12 .ok 0
      { s with
        work := { s.work with i := if lp = true ∧ 0 < plen then BitVec.ofNat 9 plen else s.work.i }
        subs := { s.subs with echo := true }
        ectl :=
          { run := true
            session := s.ectl.session + 1
            pfx := if lp then s.ectl.pfx.mapIdx (fun i b => if i < plen then txByte s i else b) else s.ectl.pfx
            plen := if lp then BitVec.ofNat 8 plen else s.ectl.plen
            delay := if ld then BitVec.ofNat 16 delay else s.ectl.delay } })

/-- The one stop of the model: ECHO_START whose new session would equal x[E_SEEN], which takes 2^32 starts that the
sequencer never applied (93_implementation_defined.md U20; log 14). -/
def Obligations.EchoStartStopsOnSessionAlias : Prop :=
  ∀ (lp ld : Bool) (delay plen : Nat) (m : Msg) (s : State), s.eng.pc = .run m 7 →
    s.ectl.session + 1 = s.eseq.seen → canReply s = true → 1 ≤ s.env.quantum →
    exec (.echoStart lp ld delay plen) s = .fault .sessionAlias

/-- ECHO_STOP completes in every state: a running sequencer is stopped and unsubscribed, the reply is OK, and nothing
else changes; the timers keep running (R192). -/
def Obligations.EchoStopCompletes : Prop :=
  ∀ (m : Msg) (s : State), s.eng.pc = .run m 1 → canReply s = true → 1 ≤ s.env.quantum →
    exec .echoStop s = .next (answered 0x13 .ok 0
      (if s.ectl.run then { s with ectl := { s.ectl with run := false }, subs := { s.subs with echo := false } }
       else s))

/-! ### DIO0 dispatch and the RX-single timeout -/

/-- The dispatches that deliver no frame: disconnected, nothing; a CRC error, both flags cleared; a zero length,
RX_DONE cleared; no RX_DONE, exactly the bits read written back, and nothing for 0. Only the second and third end an
RX-single window; none emits an event (R170, R171, R173, R176 to R179). -/
def Obligations.DispatchDropsWithoutEvent : Prop :=
  ∀ s : State, s.eng.pc = .run .edge 1 → noSpiErr s 6 → 9 ≤ s.env.quantum →
    let r := s.cfg.regmap
    let v := answer s 0
    (s.eng.connected = false → runMsg .edge s = .next (setPc .idle s)) ∧
    (s.eng.connected = true → v &&& 0x40 ≠ 0 → v &&& 0x20 ≠ 0 →
      runMsg .edge s = .next (setPc .idle (endOfRx
        { afterBus s [.read r.irqFlags v, .write r.irqFlags 0x60] with work := { s.work with irq := v } }))) ∧
    (s.eng.connected = true → v &&& 0x40 ≠ 0 → v &&& 0x20 = 0 → answer s 2 = 0 →
      runMsg .edge s = .next (setPc .idle (endOfRx
        { afterBus s [.read r.irqFlags v, .read r.fifoRxCurrent (answer s 1), .write r.fifoAddrPtr (answer s 1),
            .read r.rxNbBytes 0, .write r.irqFlags 0x40] with
          work := { s.work with irq := v, a := answer s 1, n := 0 } }))) ∧
    (s.eng.connected = true → v &&& 0x40 = 0 → v ≠ 0 →
      runMsg .edge s = .next (setPc .idle
        { afterBus s [.read r.irqFlags v, .write r.irqFlags v] with work := { s.work with irq := v } })) ∧
    (s.eng.connected = true → v = 0 →
      runMsg .edge s = .next (setPc .idle
        { afterBus s [.read r.irqFlags 0] with work := { s.work with irq := 0 } }))

/-- A received frame is read one byte at a time from the chip's current address, RSSI and SNR after it, the RX_FRAME
event is emitted with RSSI = raw − 157 and the raw SNR, RX_DONE alone is cleared, and an RX-single window ends
(R172, R174 to R176). -/
def Obligations.DispatchExtractsFrame : Prop :=
  ∀ (n : Nat) (s : State), s.eng.pc = .run .edge 1 → s.eng.connected = true →
    answer s 0 &&& 0x40 ≠ 0 → answer s 0 &&& 0x20 = 0 → n = (answer s 2).toNat → 1 ≤ n →
    s.work.rxb.length = 255 → noSpiErr s (n + 8) → n + 12 ≤ s.env.quantum →
    let r := s.cfg.regmap
    let bytes := (List.range n).map (fun j => answer s (3 + j))
    let rssi := answer s (n + 3)
    let snr := answer s (n + 4)
    let read : State :=
      { afterBus s ([.read r.irqFlags (answer s 0), .read r.fifoRxCurrent (answer s 1),
          .write r.fifoAddrPtr (answer s 1), .read r.rxNbBytes (answer s 2)] ++
          bytes.map (fun b => .read r.fifo b) ++ [.read r.pktRssi rssi, .read r.pktSnr snr]) with
        work := { s.work with irq := answer s 0, a := answer s 1, n := answer s 2, i := BitVec.ofNat 9 n,
                              rxb := bytes ++ s.work.rxb.drop n, rssi := rssi, snr := snr } }
    let event : Event :=
      { kind := .rxFrame, status := .ok, echoOrigin := false, rssi := BitVec.ofInt 16 (rssi.toNat - 157), snr := snr,
        bytes := bytes }
    runMsg .edge s = .next (setPc .idle (endOfRx (afterBus (emit event read) [.write r.irqFlags 0x40])))

/-- An RXTMO token is stale unless x[RXS_FIRED] is 1; then the chip goes to Standby, with no response and no event
(R144). -/
def Obligations.RxTimeoutReturnsToStandby : Prop :=
  ∀ s : State, s.eng.pc = .run .rxtmo 1 → 1 ≤ s.env.quantum →
    (s.rxs.fired = false → runMsg .rxtmo s = .next (setPc .idle s)) ∧
    (s.rxs.fired = true → noSpiErr s 1 →
      runMsg .rxtmo s = .next
        { afterBus s [.write s.cfg.regmap.opMode 0x81] with
          eng := { s.eng with pc := .idle, mode := .standby }
          rxs := { s.rxs with cnt := 0, fired := false } })

/-! ### Events -/

/-- Emit delivers the host's copy when some host id is subscribed, dropped with EVT_OVF when EVTQ is full, and the
sequencer's copy when it is subscribed: a frame needs two free places of EQ, else it is dropped with ECHO_EVT_OVF; a
TX event is never lost: with EQ full it replaces the newest TX entry. Nothing else changes (R175, R197). -/
def Obligations.EmitDelivers : Prop :=
  ∀ (e : Event) (s : State),
    let t := emit e s
    t = { s with
          evtq := t.evtq
          eq := t.eq
          host := { s.host with evtOvf := t.host.evtOvf, echoEvtOvf := t.host.echoEvtOvf } } ∧
    (s.subs.host = 0 → t.evtq = s.evtq ∧ t.host.evtOvf = s.host.evtOvf) ∧
    (s.subs.host ≠ 0 → s.evtq.length < s.cfg.evtqDepth →
      t.evtq = s.evtq ++ [⟨e, s.subs.host⟩] ∧ t.host.evtOvf = s.host.evtOvf) ∧
    (s.subs.host ≠ 0 → s.cfg.evtqDepth ≤ s.evtq.length → t.evtq = s.evtq ∧ t.host.evtOvf = true) ∧
    (s.subs.echo = false → t.eq = s.eq ∧ t.host.echoEvtOvf = s.host.echoEvtOvf) ∧
    (s.subs.echo = true → e.kind = .rxFrame → s.eq.length + 2 ≤ s.cfg.eqDepth →
      t.eq = s.eq ++ [⟨.rxFrame, s.ectl.session, e.bytes⟩] ∧ t.host.echoEvtOvf = s.host.echoEvtOvf) ∧
    (s.subs.echo = true → e.kind = .rxFrame → s.cfg.eqDepth < s.eq.length + 2 →
      t.eq = s.eq ∧ t.host.echoEvtOvf = true) ∧
    (s.subs.echo = true → e.kind ≠ .rxFrame → t.host.echoEvtOvf = s.host.echoEvtOvf ∧
      (s.eq.length < s.cfg.eqDepth → t.eq = s.eq ++ [⟨e.kind, s.ectl.session, []⟩]) ∧
      (s.cfg.eqDepth ≤ s.eq.length → ∀ l x q, s.eq = l ++ x :: q → x.kind ≠ .rxFrame →
        (∀ y ∈ q, y.kind = .rxFrame) → t.eq = l ++ q ++ [⟨e.kind, s.ectl.session, []⟩]))

/-! ### The time base and DIO0 -/

/-- One tick: every countdown above 0 goes down by 1 and its expiry is done when it reaches 0; in the TX wait the tick
count goes up to 8191 at most and every tenth asks for a poll; nothing else changes (R110 to R113). -/
def Obligations.TickCountsDown : Prop :=
  ∀ s : State,
    let t := timerTick s
    t = { s with
          eng := { s.eng with waitCnt := t.eng.waitCnt }
          rxs := t.rxs
          inq := t.inq
          eseq := { s.eseq with armCnt := t.eseq.armCnt, armFired := t.eseq.armFired, echoCnt := t.eseq.echoCnt,
                                echoFired := t.eseq.echoFired }
          tx := { s.tx with ticks := t.tx.ticks, pollReq := t.tx.pollReq } } ∧
    t.eng.waitCnt.toNat = s.eng.waitCnt.toNat - 1 ∧
    t.rxs.cnt.toNat = s.rxs.cnt.toNat - 1 ∧
    t.eseq.armCnt.toNat = s.eseq.armCnt.toNat - 1 ∧
    t.eseq.echoCnt.toNat = s.eseq.echoCnt.toNat - 1 ∧
    (t.eseq.armFired = true ↔ s.eseq.armFired = true ∨ s.eseq.armCnt.toNat = 1) ∧
    (t.eseq.echoFired = true ↔ s.eseq.echoFired = true ∨ s.eseq.echoCnt.toNat = 1) ∧
    (s.rxs.cnt.toNat = 1 → t.rxs.fired = true ∧ t.rxs.queued = true ∧
      t.inq = if s.rxs.queued then s.inq else s.inq ++ [.rxtmo]) ∧
    (s.rxs.cnt.toNat ≠ 1 → t.rxs.fired = s.rxs.fired ∧ t.rxs.queued = s.rxs.queued ∧ t.inq = s.inq) ∧
    (s.tx.pending = true → t.tx.ticks.toNat = min (s.tx.ticks.toNat + 1) 8191 ∧
      (t.tx.pollReq = true ↔ s.tx.pollReq = true ∨ t.tx.ticks.toNat % 10 = 0)) ∧
    (s.tx.pending = false → t.tx = s.tx)

/-- A detected edge goes to the TX wait while TX_PENDING is 1, else to INQ as a token unless one is queued, and
nowhere with the handles closed; nothing else changes (R107, R228). The second clause is the detector on one rising
edge of clk_i: its sample is the synchronizer's output once the edge has shifted it (log 12). That a detected edge,
given as the action `env edge`, leaves x[DIO0_S] and x[DIO0_PREV] as they are is the model's choice (log 29). -/
def Obligations.EdgeIsRouted : Prop :=
  (∀ s : State,
    (s.eng.handles = false → edgeTurn s = s) ∧
    (s.eng.handles = true → s.tx.pending = true → edgeTurn s = { s with tx := { s.tx with edge := true } }) ∧
    (s.eng.handles = true → s.tx.pending = false → s.dio.queued = false →
      edgeTurn s = { s with inq := s.inq ++ [.edge], dio := { s.dio with queued := true } }) ∧
    (s.eng.handles = true → s.tx.pending = false → s.dio.queued = true → edgeTurn s = s)) ∧
  (∀ (b : Bool) (s : State),
    let shifted : State := { s with dio := { s.dio with sync0 := b, sync1 := s.dio.sync0, prev := s.dio.sync0 } }
    clkTurn b s = if s.dio.sync0 = true ∧ s.dio.prev = false then edgeTurn shifted else shifted)

/-! ### Host accesses -/

/-- The two writes that enter a command: the word is pushed when INQ holds fewer than CMDQ_DEPTH host commands, else
dropped with CMD_OVF; x[CMD_ARG] keeps the low half; nothing else changes (R66, R80, R37). -/
def Obligations.CommandWritePushesTheWord : Prop :=
  ∀ (w : CmdWord) (s : State),
    hostWrite 0x014 (w.extractLsb' 32 32) (hostWrite 0x010 (w.extractLsb' 0 32) s) =
      if hcmdCount s.inq < s.cfg.cmdqDepth then
        { s with inq := s.inq ++ [.hcmd w], host := { s.host with cmdArg := w.extractLsb' 0 32 } }
      else { s with host := { s.host with cmdArg := w.extractLsb' 0 32, cmdOvf := true } }

/-- A host write to the TXBUF window sets the four bytes of its word, little-endian, and no other byte and no other
state (R38, R64, R67). -/
def Obligations.TxbufWriteSetsFourBytes : Prop :=
  ∀ (a : BusAddr) (d : Word) (s : State), 0x100 ≤ a.toNat → a.toNat < 0x200 →
    let t := hostWrite a d s
    t = { s with txbuf := t.txbuf } ∧
    ∀ i, i < 256 → txByte t i =
      if i / 4 = (a.toNat - 0x100) / 4 then d.extractLsb' (8 * (i % 4)) 8 else txByte s i

/-- The reads with side effects: RSP pops RSPQ; EVT_HDR discards the current event and latches the next; EVT_DATA
gives the next payload byte and moves the index. Empty, each returns 0; EVT_HDR has then still discarded the current
event, the others change nothing else. Every other read, whatever its offset, has no side effect and is idempotent;
the data returned is in the model's own `host.rdata` (log 16) (R67, R69, R84, R86, R88). -/
def Obligations.PoppingReads : Prop :=
  ∀ s : State,
    (s.rspq = [] → hostRead 0x018 s = { s with host := { s.host with rdata := 0 } }) ∧
    (∀ st op v rest, s.rspq = ⟨st, op, v⟩ :: rest →
      hostRead 0x018 s = { s with
        rspq := rest
        host := { s.host with rdata := (1 : BitVec 1) ++ (0 : BitVec 3) ++ statusCode st ++ op ++ v } }) ∧
    (s.evtq = [] → hostRead 0x01C s = { s with evtCur := none, host := { s.host with rdata := 0 } }) ∧
    (∀ e rest, s.evtq = e :: rest →
      hostRead 0x01C s = { s with
        evtq := rest
        evtCur := some { record := e, idx := 0 }
        host := { s.host with
          rdata := (1 : BitVec 1) ++ kindCode e.event.kind ++ (0 : BitVec 3) ++ BitVec.ofBool e.event.echoOrigin ++
            e.mask ++ (0 : BitVec 4) ++ statusCode e.event.status ++ BitVec.ofNat 8 e.event.bytes.length } }) ∧
    (s.evtCur = none → hostRead 0x024 s = { s with host := { s.host with rdata := 0 } }) ∧
    (∀ c, s.evtCur = some c →
      (∀ b, c.record.event.bytes[c.idx]? = some b →
        hostRead 0x024 s = { s with
          evtCur := some { c with idx := c.idx + 1 }
          host := { s.host with rdata := (0 : BitVec 23) ++ (1 : BitVec 1) ++ b } }) ∧
      (c.record.event.bytes[c.idx]? = none → hostRead 0x024 s = { s with host := { s.host with rdata := 0 } })) ∧
    (∀ a : BusAddr, a.toNat / 4 * 4 ∉ [0x018, 0x01C, 0x024] →
      hostRead a s = { s with host := { s.host with rdata := (hostRead a s).host.rdata } } ∧
      hostRead a (hostRead a s) = hostRead a s)

/-- What the registers read, field by field, and what writes to them do. STATUS is the live view of R25 with the mode
codes of R45; IRQ_EN and STICKY read as R26 says, SUBS, LEVELS and ECHO_CFG as R33, R36 and R41, the CFG registers as
R30, EVT_META as R87; byte `i` of the ECHO_PREFIX words is byte `i` of the prefix (R41, R64), and 0 past PREFIX_MAX
(log 15); write-only and unlisted offsets read 0. A write of STICKY clears the bits written 1 and leaves the others,
IRQ_EN takes its two bits, read-only and unlisted offsets ignore writes (R24, R67). `irq_o` is the combination of
R227. -/
def Obligations.RegistersReadAndWrite : Prop :=
  ∀ s : State,
    let read : BusAddr → Word := fun a => (hostRead a s).host.rdata
    let status := read 0x004
    let radio := read 0x02C
    let pkt := read 0x030
    (status.getLsbD 0 = s.eng.connected ∧ status.getLsbD 1 = s.eng.handles ∧
      status.extractLsb' 2 3 = (match s.eng.mode with
        | .sleep => 0
        | .standby => 1
        | .tx => 3
        | .rxCont => 5
        | .rxSingle => 6
        | .unknown => 7) ∧
      (status.getLsbD 5 = true ↔ s.eng.pc ≠ .idle) ∧ status.getLsbD 6 = s.tx.pending ∧
      (status.getLsbD 7 = true ↔ s.eng.mode = .rxCont ∨ s.eng.mode = .rxSingle) ∧
      status.getLsbD 8 = s.ectl.run ∧
      status.extractLsb' 9 2 = (match s.eseq.state with
        | .idle => 0
        | .listening => 1
        | .echoing => 2
        | .waitingTxDone => 3) ∧
      (status.getLsbD 11 = true ↔ s.eseq.await ≠ .none) ∧
      (status.getLsbD 12 = true ↔ hcmdCount s.inq = s.cfg.cmdqDepth) ∧
      (status.getLsbD 13 = true ↔ s.rspq ≠ []) ∧ (status.getLsbD 14 = true ↔ s.evtq ≠ []) ∧
      status.getLsbD 15 = irqOut s ∧ status.extractLsb' 16 16 = 0) ∧
    (irqOut s = true ↔ (s.host.rspIe = true ∧ s.rspq ≠ []) ∨ (s.host.evtIe = true ∧ s.evtq ≠ [])) ∧
    read 0x000 = 0xD2D11276 ∧
    ((read 0x008).getLsbD 0 = s.host.rspIe ∧ (read 0x008).getLsbD 1 = s.host.evtIe ∧
      (read 0x008).extractLsb' 2 30 = 0) ∧
    ((read 0x00C).getLsbD 0 = s.host.cmdOvf ∧ (read 0x00C).getLsbD 1 = s.host.evtOvf ∧
      (read 0x00C).getLsbD 2 = s.host.echoEvtOvf ∧ (read 0x00C).extractLsb' 3 29 = 0) ∧
    (s.evtCur = none → read 0x020 = 0) ∧
    (∀ c, s.evtCur = some c →
      (c.record.event.kind = .rxFrame → (read 0x020).extractLsb' 16 16 = c.record.event.rssi ∧
        (read 0x020).extractLsb' 8 8 = 0 ∧ (read 0x020).extractLsb' 0 8 = c.record.event.snr) ∧
      (c.record.event.kind ≠ .rxFrame → read 0x020 = 0)) ∧
    read 0x028 = s.radio.freq ∧
    (radio.extractLsb' 0 4 = s.radio.sf ∧ radio.extractLsb' 4 4 = s.radio.bw ∧ radio.extractLsb' 8 4 = s.radio.cr ∧
      radio.extractLsb' 12 4 = 0 ∧ radio.extractLsb' 16 5 = s.radio.txPwr ∧ radio.extractLsb' 21 3 = 0 ∧
      radio.extractLsb' 24 8 = s.radio.sync) ∧
    (pkt.extractLsb' 0 16 = s.radio.preamble ∧ pkt.getLsbD 16 = s.radio.crcOn ∧
      pkt.getLsbD 17 = s.radio.implicitHdr ∧ pkt.extractLsb' 18 14 = 0) ∧
    ((read 0x034).extractLsb' 0 16 = s.ectl.delay ∧ (read 0x034).extractLsb' 16 8 = s.ectl.plen ∧
      (read 0x034).extractLsb' 24 8 = 0) ∧
    read 0x038 = s.eseq.rxc ∧ read 0x03C = s.eseq.txc ∧
    ((read 0x040).extractLsb' 0 8 = s.subs.host ∧ (read 0x040).getLsbD 8 = s.subs.echo ∧
      (read 0x040).extractLsb' 9 23 = 0) ∧
    ((read 0x044).extractLsb' 0 8 = BitVec.ofNat 8 (hcmdCount s.inq) ∧
      (read 0x044).extractLsb' 8 8 = BitVec.ofNat 8 s.rspq.length ∧
      (read 0x044).extractLsb' 16 8 = BitVec.ofNat 8 s.evtq.length ∧
      (read 0x044).extractLsb' 24 8 = BitVec.ofNat 8 s.eq.length) ∧
    (∀ i, i < 32 → (read (BitVec.ofNat 10 (0x080 + 4 * (i / 4)))).extractLsb' (8 * (i % 4)) 8 = s.ectl.pfx.getD i 0) ∧
    (∀ a : BusAddr,
      let off := a.toNat / 4 * 4
      (off = 0x010 ∨ off = 0x014 ∨ (0x048 ≤ off ∧ off < 0x080) ∨ 0x0A0 ≤ off → read a = 0) ∧
      (off ∉ [0x008, 0x00C, 0x010, 0x014] → ¬(0x100 ≤ off ∧ off < 0x200) → ∀ d, hostWrite a d s = s)) ∧
    (∀ d : Word,
      hostWrite 0x00C d s = { s with host := { s.host with
        cmdOvf := s.host.cmdOvf && !d.getLsbD 0
        evtOvf := s.host.evtOvf && !d.getLsbD 1
        echoEvtOvf := s.host.echoEvtOvf && !d.getLsbD 2 } } ∧
      hostWrite 0x008 d s = { s with host := { s.host with rspIe := d.getLsbD 0, evtIe := d.getLsbD 1 } })

/-- What the other agents leave alone: a host access, a tick, a DIO0 edge or clock, and a step of the echo sequencer
make no transfer and move no pin, and they change neither x[PC], x[ORIGIN], x[HANDLES], x[CONNECTED], x[MODE] and
x[TXP], nor the shadow, the subscribers, the echo control registers, the working registers R240 does not reset, or the
parameters; only a host access changes TXBUF, RSPQ, EVTQ or EVT_CUR; only the sequencer takes from EQ (R39, R40, R78,
R233). Address bits 1:0 of a host access are ignored (R67). Exempt, and not spoken of here, are x[WAIT_CNT], x[TXT],
x[TX_POLLREQ], x[TX_EDGE], the RX-single registers, INQ and the detector's own: `Obligations.TickCountsDown` and
`Obligations.EdgeIsRouted` say what a tick and an edge do to them. -/
def Obligations.OtherAgentsLeaveTheEngineAlone : Prop :=
  (∀ (s t : State) (b : Bool) (a : BusAddr) (d : Word) (p : Config.EchoPick),
    t = hostWrite a d s ∨ t = hostRead a s ∨ t = timerTick s ∨ t = edgeTurn s ∨ t = clkTurn b s ∨ t = echoStep p s →
    t.bus = s.bus ∧ t.pins = s.pins ∧ t.cfg = s.cfg ∧ { t.eng with waitCnt := s.eng.waitCnt } = s.eng ∧
    t.radio = s.radio ∧ t.subs = s.subs ∧ t.ectl = s.ectl ∧ t.work = s.work ∧ t.tx.pending = s.tx.pending ∧
    t.env = s.env) ∧
  (∀ (s t : State) (b : Bool) (p : Config.EchoPick),
    t = timerTick s ∨ t = edgeTurn s ∨ t = clkTurn b s ∨ t = echoStep p s →
    t.txbuf = s.txbuf ∧ t.rspq = s.rspq ∧ t.evtq = s.evtq ∧ t.evtCur = s.evtCur ∧ t.host = s.host) ∧
  (∀ (s t : State) (b : Bool) (a : BusAddr) (d : Word),
    t = hostWrite a d s ∨ t = hostRead a s ∨ t = timerTick s ∨ t = edgeTurn s ∨ t = clkTurn b s →
    t.eq = s.eq ∧ t.rpl = s.rpl ∧ t.eseq.state = s.eseq.state ∧ t.eseq.await = s.eseq.await ∧
    t.eseq.rxc = s.eseq.rxc ∧ t.eseq.txc = s.eseq.txc ∧ t.eseq.buf = s.eseq.buf) ∧
  (∀ (s : State) (a : BusAddr) (d : Word),
    hostWrite a d s = hostWrite (a &&& 0x3FC) d s ∧ hostRead a s = hostRead (a &&& 0x3FC) s)

/-- A quiescent controller stays as it is until the host, the chip or the reset input acts: the engine, a tick and
every choice of the sequencer change nothing, and no action of the sequencer is enabled exactly where none of its
choices changes anything (R251, R190). -/
def Obligations.QuiescentChangesNothing : Prop :=
  (∀ s : State, quiescent s = true →
    engineTurn s = .next s ∧ timerTick s = s ∧ ∀ p, echoStep p s = s) ∧
  (∀ s : State, echoEnabled s = true ↔ ∃ p, echoStep p s ≠ s)

/-! ### The SPI frame -/

/-- A transfer shifts out the address byte, with the write bit as its top bit, then the data byte or 0; during it
`cs_n_o` is low in one interval and `sclk_o` rises exactly 16 times, on the bits of the frame from the most
significant (R89, R63, R100, R103). -/
def Obligations.SpiFrameOnThePins : Prop :=
  (∀ (a : ChipAddr) (v : Byte),
    mosiFrame (.write a v) = some ((0x80 ||| a.setWidth 8) ++ v) ∧
    mosiFrame (.read a v) = some (a.setWidth 8 ++ (0 : Byte))) ∧
  (∀ f : BitVec 16,
    sclkRises (spiWave f) = (List.range 16).map f.getMsbD ∧
    (spiWave f).map (·.cs) = List.replicate 34 false ++ [true])

/-! ### The echo sequencer -/

/-- With no call outstanding, a start not yet applied is applied before anything else, and a stop otherwise: START
takes the session, goes to Listening, loads ARM with 100 ms and drops the Echo timer; STOP goes to Idle and leaves the
timers (R193, R194, R190). A call outstanding blocks both until its reply is there. -/
def Obligations.EchoControlIsApplied : Prop :=
  ∀ (p : Config.EchoPick) (s : State),
    (s.eseq.await ≠ .none → s.rpl.valid = false → echoStep p s = s) ∧
    (s.eseq.await = .none → s.ectl.run = true → s.eseq.seen ≠ s.ectl.session →
      echoStep p s = { s with eseq := { s.eseq with
        seen := s.ectl.session, state := .listening, armCnt := 101, armFired := false, echoCnt := 0,
        echoFired := false } }) ∧
    (s.eseq.await = .none → s.ectl.run = false → s.eseq.state ≠ .idle →
      echoStep p s = { s with eseq := { s.eseq with state := .idle } })

/-- The head of EQ: discarded when the sequencer is Idle or its session is another; a frame is accepted in Listening
only: counted, its echo built from the prefix and its bytes, the Echo timer loaded with the delay; a TX event ends
WaitingTxDone only, with ARM loaded with 0 (R196, R198, R204, R205, R208). -/
def Obligations.EchoHandlesHeadOfEq : Prop :=
  ∀ (x : EqEntry) (rest : List EqEntry) (s : State), s.eseq.await = .none → noControlPending s = true →
    s.eq = x :: rest → s.eseq.buf.length = 255 →
    let popped : State := { s with eq := rest }
    ((s.eseq.state = .idle ∨ x.session ≠ s.eseq.seen) → echoStep .event s = popped) ∧
    (s.eseq.state ≠ .idle → x.session = s.eseq.seen → x.kind = .rxFrame → s.eseq.state ≠ .listening →
      echoStep .event s = popped) ∧
    (s.eseq.state = .listening → x.session = s.eseq.seen → x.kind = .rxFrame →
      ∃ buf : List Byte, buf.length = 255 ∧
        (∀ i, i < min (s.ectl.plen.toNat + x.bytes.length) 255 →
          buf[i]? = some (if i < s.ectl.plen.toNat then s.ectl.pfx.getD i 0
            else x.bytes.getD (i - s.ectl.plen.toNat) 0)) ∧
        echoStep .event s = { popped with eseq := { s.eseq with
          rxc := if s.eseq.rxc = 0xFFFFFFFF then s.eseq.rxc else s.eseq.rxc + 1
          state := .echoing
          buf := buf
          len := BitVec.ofNat 9 (s.ectl.plen.toNat + x.bytes.length)
          echoCnt := BitVec.ofNat 17 (s.ectl.delay.toNat + 1)
          echoFired := false } }) ∧
    (s.eseq.state = .waitingTxDone → x.session = s.eseq.seen → x.kind ≠ .rxFrame →
      echoStep .event s = { popped with eseq := { s.eseq with state := .listening, armCnt := 1, armFired := false } }) ∧
    (s.eseq.state ≠ .idle → s.eseq.state ≠ .waitingTxDone → x.session = s.eseq.seen → x.kind ≠ .rxFrame →
      echoStep .event s = popped)

/-- The expiries: ARM in Listening posts a receive call, Echo in Echoing counts a submission and posts a transmit call
of the echo's length, and the sequencer awaits the reply; in other states only the fired bit is cleared (R199, R200). -/
def Obligations.EchoExpiriesPostCalls : Prop :=
  ∀ s : State, s.eseq.await = .none → noControlPending s = true →
    (s.eseq.armFired = true → s.eseq.state = .listening →
      echoStep .arm s = { s with
        inq := s.inq ++ [.ecall .receiveMode 0 s.eseq.seen]
        eseq := { s.eseq with armFired := false, callSess := s.eseq.seen, await := .recv } }) ∧
    (s.eseq.armFired = true → s.eseq.state ≠ .listening →
      echoStep .arm s = { s with eseq := { s.eseq with armFired := false } }) ∧
    (s.eseq.echoFired = true → s.eseq.state = .echoing →
      echoStep .echo s = { s with
        inq := s.inq ++ [.ecall .transmit (s.eseq.len.setWidth 32) s.eseq.seen]
        eseq := { s.eseq with
          echoFired := false
          txc := if s.eseq.txc = 0xFFFFFFFF then s.eseq.txc else s.eseq.txc + 1
          callSess := s.eseq.seen
          await := .xmit } }) ∧
    (s.eseq.echoFired = true → s.eseq.state ≠ .echoing →
      echoStep .echo s = { s with eseq := { s.eseq with echoFired := false } })

/-- A reply of the running session: a failed receive call is retried after 1000 ms, a transmit call answered OK leads
to WaitingTxDone and any other status back to Listening with ARM loaded with 0; of another session it is discarded. In
every case the slot is free and no call is awaited (R201 to R203). -/
def Obligations.EchoConsumesReply : Prop :=
  ∀ (p : Config.EchoPick) (s : State), s.rpl.valid = true → s.eseq.await ≠ .none →
    let freed : State := { s with rpl := { s.rpl with valid := false }, eseq := { s.eseq with await := .none } }
    (s.ectl.run = false ∨ s.ectl.session ≠ s.eseq.callSess → echoStep p s = freed) ∧
    (s.ectl.run = true → s.ectl.session = s.eseq.callSess → s.eseq.await = .recv →
      echoStep p s = if s.rpl.status = .ok then freed
        else { freed with eseq := { freed.eseq with armCnt := 1001, armFired := false } }) ∧
    (s.ectl.run = true → s.ectl.session = s.eseq.callSess → s.eseq.await = .xmit →
      echoStep p s = if s.rpl.status = .ok then { freed with eseq := { freed.eseq with state := .waitingTxDone } }
        else { freed with eseq := { freed.eseq with state := .listening, armCnt := 1, armFired := false } })

/-! ### Frames of the commands -/

/-- What no command changes while it executes, on any path, an IoError among them: the parameters, every byte of
TXBUF, INQ, EVT_CUR, x[ORIGIN], the sequencer's registers, the synchronizer and x[EDGE_Q], x[RXTMO_Q], x[CMD_ARG],
IRQ_EN, CMD_OVF; the bus history only grows; RSPQ only for the host and RPL only for an echo call. -/
def Obligations.CommandFrame : Prop :=
  ∀ (i : Instr) (s t : State), s.eng.pc ≠ .idle → exec i s = .next t →
    t.cfg = s.cfg ∧ (∀ j, txByte t j = txByte s j) ∧ t.txbuf = s.txbuf ∧ t.inq = s.inq ∧ t.evtCur = s.evtCur ∧
    t.eng.origin = s.eng.origin ∧ t.eseq = s.eseq ∧
    t.dio.sync0 = s.dio.sync0 ∧ t.dio.sync1 = s.dio.sync1 ∧ t.dio.queued = s.dio.queued ∧
    t.rxs.queued = s.rxs.queued ∧
    t.host = { s.host with evtOvf := t.host.evtOvf, echoEvtOvf := t.host.echoEvtOvf } ∧
    (∃ l, t.bus = s.bus ++ l) ∧
    (s.eng.origin ≠ .host → t.rspq = s.rspq) ∧ (s.eng.origin = .host → t.rpl = s.rpl)

/-- Which commands change which registers, on any path: the shadow's fields only their own setters and BEGIN, and only
together with the reply (R30); the subscribers only SUBSCRIBE and UNSUBSCRIBE (x[HOST_SUBS]) and ECHO_START and
ECHO_STOP (x[ECHO_SUB], x[E_RUN]); the prefix, the delay and the session only ECHO_START; x[WAIT_CNT] only BEGIN and
HARDWARE_RESET; x[DIO0_PREV] only BEGIN; the TX wait's count and triggers only TRANSMIT; events only TRANSMIT
(outside a TX wait); only BEGIN connects. -/
def Obligations.CommandsChangeOnlyTheirRegisters : Prop :=
  ∀ (i : Instr) (s t : State), s.eng.pc ≠ .idle → exec i s = .next t →
    let begins := ∃ f, i = .begin f
    (t.eng.pc ≠ .idle → t.radio = s.radio) ∧
    (¬begins → t.radio.preamble = s.radio.preamble ∧ t.radio.crcOn = s.radio.crcOn) ∧
    (¬begins → (∀ f, i ≠ .setFrequency f) → t.radio.freq = s.radio.freq) ∧
    (¬begins → (∀ v, i ≠ .setSf v) → t.radio.sf = s.radio.sf ∧ t.radio.implicitHdr = s.radio.implicitHdr) ∧
    (¬begins → (∀ v, i ≠ .setBw v) → t.radio.bw = s.radio.bw) ∧
    (¬begins → (∀ v, i ≠ .setCr v) → t.radio.cr = s.radio.cr) ∧
    (¬begins → (∀ v, i ≠ .setTxPower v) → t.radio.txPwr = s.radio.txPwr) ∧
    (¬begins → (∀ v, i ≠ .setSyncWord v) → t.radio.sync = s.radio.sync) ∧
    ((∀ id, i ≠ .subscribe id ∧ i ≠ .unsubscribe id) → t.subs.host = s.subs.host) ∧
    ((∀ lp ld d p, i ≠ .echoStart lp ld d p) →
      t.ectl = { s.ectl with run := t.ectl.run } ∧
      (i ≠ .echoStop → t.ectl.run = s.ectl.run ∧ t.subs.echo = s.subs.echo)) ∧
    (¬begins → i ≠ .hardwareReset → t.eng.waitCnt = s.eng.waitCnt) ∧
    (¬begins → t.dio = s.dio) ∧
    ((∀ n, i ≠ .transmit n) → t.tx = { s.tx with pending := t.tx.pending } ∧
      (t.tx.pending = true → s.tx.pending = true) ∧
      (s.tx.pending = false → t.evtq = s.evtq ∧ t.eq = s.eq ∧ t.host = s.host)) ∧
    (¬begins → t.eng.connected = true → s.eng.connected = true)

/-- The engine's working registers carry nothing from one message to the next (R22, R29): from a message's first step,
two states that differ only in them lead to outcomes that differ only in them. -/
def Obligations.WorkingRegistersAreWrittenFirst : Prop :=
  ∀ (m : Msg) (s t : State), s.eng.pc = .run m 1 → SameButWork s t → s.work.rxb.length = 255 →
    t.work.rxb.length = 255 → sameButWorkOutcome (runMsg m s) (runMsg m t)

/-! ### Invariants -/

/-- Every step keeps the bounds of the queues, the forms of the buffers, EQ's last place for a TX entry, a non-zero
SUBMASK in every record, and the canonical form of TXBUF's memory (R34, R35, R38 to R40, R86, R197). -/
def Obligations.StepKeepsStorage : Prop := ∀ s t : State, StorageOk s → step s = .next t → StorageOk t

/-- Every step keeps: connected implies open handles; the mode is known only with open handles; an RX-single timer
that runs or has fired implies connected and RXSINGLE; the pins are as R106's table has them between transfers; no
transfer of the bus history was made with the handles closed (R27, R103, R106, R144, R224). -/
def Obligations.StepKeepsLink : Prop :=
  ∀ s t : State, LinkOk s → HistoryOk s → step s = .next t → LinkOk t ∧ HistoryOk t

/-- Every step keeps: TX_PENDING exactly in mode TX, and only in the wait of a TRANSMIT (R28, R163). -/
def Obligations.StepKeepsTxPending : Prop := ∀ s t : State, TxOk s → step s = .next t → TxOk t

/-- Every step keeps: one EDGE and one RXTMO token of INQ at most, exactly while their flags are set, and exactly one
echo call, in INQ, executing or answered, while one is awaited (R34, R207 invariant 3); and it keeps the invariants 1,
2 and 5 of R207 and point (3) of R195. -/
def Obligations.StepKeepsTokensAndEcho : Prop :=
  ∀ s t : State, step s = .next t → (TokensOk s → TokensOk t) ∧ (EchoOk s → EchoOk t)

/-- Every step keeps invariant 6 of R207: a sequencer in WaitingTxDone, unless stopped or restarted, has a TX event of
its session in EQ. -/
def Obligations.StepKeepsWaitingTxDoneLive : Prop :=
  ∀ s t : State, StorageOk s → TokensOk s → EchoOk s → WaitEndsOk s → step s = .next t → WaitEndsOk t

/-- Every step keeps the shadow's legal values, with SF 6 only under an implicit header (R30). -/
def Obligations.StepKeepsShadowLegal : Prop := ∀ s t : State, ShadowOk s → step s = .next t → ShadowOk t

/-- Every step keeps x[PC] at a step of its message, never refuses, and stops only at the session alias of
93_implementation_defined.md U20 (log 14): the controller never stops on its own (R236). -/
def Obligations.StepNeverStopsOnItsOwn : Prop :=
  ∀ s : State, pcOk s = true →
    (∃ t, step s = .next t ∧ pcOk t = true) ∨
    (step s = .fault .sessionAlias ∧ s.ectl.session + 1 = s.eseq.seen)

/-- The state right after reset meets every invariant. -/
def Obligations.ResetMeetsInvariants : Prop :=
  StorageOk State.reset ∧ LinkOk State.reset ∧ HistoryOk State.reset ∧ TxOk State.reset ∧ TokensOk State.reset ∧
  EchoOk State.reset ∧ WaitEndsOk State.reset ∧ ShadowOk State.reset ∧ pcOk State.reset = true

/-- Asserting the reset input in any state, under legal parameters, leaves the CSR images of R240 and the pins, queues
and handles as its table says; every byte of TXBUF is a free value of the new reset epoch (log 6), and the parameters
stay (R240, R241). That the bytes of
ECHO_PREFIX past PREFIX_MAX read 0, and that PREFIX_MAX is at least 5, is the model's reading (log 15). -/
def Obligations.BlockResetLeavesTheResetState : Prop :=
  ∀ s : State, s.cfg.legal = true →
    let t := blockReset s
    csrValue t 0x000 = 0xD2D11276 ∧ csrValue t 0x004 = 0x0000001C ∧ csrValue t 0x028 = 0x3689CAC0 ∧
    csrValue t 0x02C = 0x340E0577 ∧ csrValue t 0x030 = 0x00010008 ∧ csrValue t 0x034 = 0x00050096 ∧
    csrValue t 0x080 = 0x4F484345 ∧ csrValue t 0x084 = 0x0000003A ∧
    (∀ off, off ∉ [0x000, 0x004, 0x028, 0x02C, 0x030, 0x034, 0x080, 0x084] → csrValue t off = 0) ∧
    t.pins = { cs := .released, rst := .released, sclk := .released, mosi := .released } ∧ t.bus = [] ∧
    t.inq = [] ∧ t.rspq = [] ∧ t.evtq = [] ∧ t.evtCur = none ∧ t.eq = [] ∧ t.rpl.valid = false ∧
    t.eng.pc = .idle ∧ t.ectl.pfx.length = s.cfg.prefixMax ∧ irqOut t = false ∧ t.cfg = s.cfg ∧
    ∀ j, txByte t j = Config.freeTxByte (s.env.txEpoch + 1) j
end

