-- ==== Sys2Proof/Laws/Run.lean ====
section
/-! SUPPORT. One action of an engine run at a time: what the run answers where the next action is a transfer, a mode
write, a check, a wait or a reply. -/

namespace Sys2Proof.Machine

open Sys2Proof.Safety

/-! The environment's counters after some entries of the bus history. (The equations that the lemmas below ask for
about a later state of a run are for `simp`: `rfl` makes the kernel evaluate the whole run.) -/

@[simp] theorem afterBus_spiErr (s : State) (l : List BusEvent) :
    (afterBus s l).env.spiErr = s.env.spiErr := rfl
@[simp] theorem afterBus_miso (s : State) (l : List BusEvent) : (afterBus s l).env.miso = s.env.miso := rfl
@[simp] theorem afterBus_transferNo (s : State) (l : List BusEvent) :
    (afterBus s l).env.transferNo = s.env.transferNo + l.countP isTransfer := rfl
@[simp] theorem afterBus_readNo (s : State) (l : List BusEvent) :
    (afterBus s l).env.readNo = s.env.readNo + l.countP isRead := rfl
@[simp] theorem isTransfer_read (a : ChipAddr) (v : Byte) : isTransfer (.read a v) = true := rfl
@[simp] theorem isTransfer_write (a : ChipAddr) (v : Byte) : isTransfer (.write a v) = true := rfl
@[simp] theorem isTransfer_pin (p : Pin) (l : PinState) : isTransfer (.pin p l) = false := rfl
@[simp] theorem isRead_read (a : ChipAddr) (v : Byte) : isRead (.read a v) = true := rfl
@[simp] theorem isRead_write (a : ChipAddr) (v : Byte) : isRead (.write a v) = false := rfl
@[simp] theorem isRead_pin (p : Pin) (l : PinState) : isRead (.pin p l) = false := rfl

/-- A later transfer of a run whose next transfers do not fail. -/
theorem spiErrNow_later {s t : State} {n : Nat} (h : noSpiErr s n) (j : Nat) (hj : j < n) (hc : t.cfg = s.cfg)
    (hl : t.env.spiErr = s.env.spiErr) (ht : t.env.transferNo = s.env.transferNo + j) : spiErrNow t = false := by
  have := h j hj
  simp only [spiErrNow, hc, hl, ht]
  exact this

/-- A later answer of the chip. -/
theorem chipAnswer_later {s t : State} (j : Nat) (hm : t.env.miso = s.env.miso)
    (hr : t.env.readNo = s.env.readNo + j) : chipAnswer t = answer s j := by
  simp only [chipAnswer, answer, hm, hr]

/-- Room for the reply, later in a run. -/
theorem canReply_later {s t : State} (h : canReply s = true) (ho : t.eng.origin = s.eng.origin)
    (hr : t.rspq = s.rspq) (hc : t.cfg = s.cfg) : canReply t = true := by
  rw [canReply_congr ho hr hc]; exact h

section
variable {op : Option Byte} {prog : List Act} {m : Msg} {n k : Nat} {s : State}

/-- A register write that does not fail. -/
theorem runActs_write {reg : Config.RegMap → ChipAddr} {val : State → Byte} {upd : State → State}
    (ha : stepAt prog k = some (writeAct reg val upd)) (he : spiErrNow s = false) :
    runActs op prog m (n + 1) k s =
      runActs op prog m n (k + 1) (upd (afterBus s [.write (reg s.cfg.regmap) (val s)])) :=
  runActs_step ha (by rw [writeAct_spec, he]; rfl)

/-- A register read that does not fail, with the answer it gives. -/
theorem runActs_read {reg : Config.RegMap → ChipAddr} {store : Byte → State → State} {v : Byte}
    (ha : stepAt prog k = some (readAct reg store)) (he : spiErrNow s = false) (hv : chipAnswer s = v) :
    runActs op prog m (n + 1) k s =
      runActs op prog m n (k + 1) (store v (afterBus s [.read (reg s.cfg.regmap) v])) :=
  runActs_step ha (by rw [readAct_spec, he, hv]; rfl)

/-- A mode write that does not fail. -/
theorem runActs_opMode {md : Mode} {upd : State → State}
    (ha : stepAt prog k = some (opModeAct md upd)) (he : spiErrNow s = false) :
    runActs op prog m (n + 1) k s =
      runActs op prog m n (k + 1) (upd (setMode md (afterBus s [.write s.cfg.regmap.opMode (opModeByte md)]))) :=
  runActs_step ha (by rw [opModeAct_spec, he]; rfl)

/-- A change of the controller's own state. -/
theorem runActs_set {f : State → State} (ha : stepAt prog k = some (setAct f)) :
    runActs op prog m (n + 1) k s = runActs op prog m n (k + 1) (f s) :=
  runActs_step ha rfl

/-- A check that passes. -/
theorem runActs_need {ok : State → Bool} {o : Byte} {st : Status} (ha : stepAt prog k = some (need ok o st))
    (h : ok s = true) : runActs op prog m (n + 1) k s = runActs op prog m n (k + 1) s :=
  runActs_step ha (by simp [need_spec, h])

/-- A check that fails, with room for the reply. -/
theorem runActs_need_fails {ok : State → Bool} {o : Byte} {st : Status} (ha : stepAt prog k = some (need ok o st))
    (h : ok s = false) (hr : canReply s = true) :
    runActs op prog m (n + 1) k s = .next (answered o st 0 s) :=
  runActs_done ha (by simp [need_spec, h, hr])

/-- A wait that is over. -/
theorem runActs_waited (ha : stepAt prog k = some holdAct) (h : s.eng.waitCnt = 0) :
    runActs op prog m (n + 1) k s = runActs op prog m n (k + 1) s :=
  runActs_step ha (by simp [holdAct, h])

/-- A wait that runs. -/
theorem runActs_waiting (ha : stepAt prog k = some holdAct) (h : s.eng.waitCnt ≠ 0) :
    runActs op prog m n k s = .next (setPc (.run m k) s) :=
  runActs_hold ha (by rw [holdAct, if_neg h])

/-- A reply with room for it. -/
theorem runActs_reply {o : Byte} {st : Status} {v : Half} {upd : State → State}
    (ha : stepAt prog k = some (replyWith o st v upd)) (hr : canReply s = true) :
    runActs op prog m (n + 1) k s = .next (answered o st v (upd s)) :=
  runActs_done ha (by simp [replyWith_spec, hr])

/-- A reply with no room for it. -/
theorem runActs_reply_holds {o : Byte} {st : Status} {v : Half} {upd : State → State}
    (ha : stepAt prog k = some (replyWith o st v upd)) (hr : canReply s = false) :
    runActs op prog m n k s = .next (setPc (.run m k) s) :=
  runActs_hold ha (by simp [replyWith_spec, hr])

end

end Sys2Proof.Machine
end

