-- ==== Sys2Proof/Tests/Slice0.lean ====
section
/-! SUPPORT. Tests of the model. Expected values are those of 95_test_vectors.md (the vector is named in each comment)
or are written out from the rules; the witnesses at the end show states that meet the hypotheses of the obligations. -/

namespace Sys2Proof.Tests

open Sys2Proof.Machine Sys2Proof.Safety

/-! ### Well-formedness: one ill-formed term for each check -/

theorem test_wf_begin : (Instr.begin 4294967296).wellFormed = false := by decide
theorem test_wf_setFrequency : (Instr.setFrequency 4294967296).wellFormed = false := by decide
theorem test_wf_setSf : (Instr.setSf 4294967296).wellFormed = false := by decide
theorem test_wf_setBw : (Instr.setBw 4294967296).wellFormed = false := by decide
theorem test_wf_setCr : (Instr.setCr 4294967296).wellFormed = false := by decide
theorem test_wf_setTxPower : (Instr.setTxPower 4294967296).wellFormed = false := by decide
theorem test_wf_setSyncWord : (Instr.setSyncWord 4294967296).wellFormed = false := by decide
theorem test_wf_transmit : (Instr.transmit 4294967296).wellFormed = false := by decide
theorem test_wf_receiveMode : (Instr.receiveMode 4294967296).wellFormed = false := by decide
theorem test_wf_subscribe : (Instr.subscribe 8).wellFormed = false := by decide
theorem test_wf_unsubscribe : (Instr.unsubscribe 8).wellFormed = false := by decide
theorem test_wf_echoStart_delay : (Instr.echoStart true true 65536 0).wellFormed = false := by decide
theorem test_wf_echoStart_plen : (Instr.echoStart true true 0 256).wellFormed = false := by decide

/-! ### Decoding: a word written out from R80, R82, R90 for every constructor -/

/-- V-BEGIN-1: `01 00 0000 3689CAC0`. -/
theorem test_decode_begin : decode 0x010000003689CAC0#64 = .ok (.begin 915000000) := by decide
theorem test_decode_setFrequency : decode 0x0200000033BE27A0#64 = .ok (.setFrequency 868100000) := by decide
/-- V-SF-6: the whole ARG is the operand. -/
theorem test_decode_setSf : decode 0x0300000000010007#64 = .ok (.setSf 65543) := by decide
theorem test_decode_setBw : decode 0x0400000000000009#64 = .ok (.setBw 9) := by decide
theorem test_decode_setCr : decode 0x0500000000000008#64 = .ok (.setCr 8) := by decide
theorem test_decode_setTxPower : decode 0x0600000000000012#64 = .ok (.setTxPower 18) := by decide
theorem test_decode_setSyncWord : decode 0x0700000000000034#64 = .ok (.setSyncWord 0x34) := by decide
theorem test_decode_transmit : decode 0x0800000000000002#64 = .ok (.transmit 2) := by decide
theorem test_decode_receiveMode : decode 0x09000000000003E8#64 = .ok (.receiveMode 1000) := by decide
/-- V-RES-4: SUB and RSV all ones are ignored. -/
theorem test_decode_standby : decode 0x0AFFFFFF00000000#64 = .ok .standby := by decide
theorem test_decode_sleep : decode 0x0B00000000000000#64 = .ok .sleep := by decide
theorem test_decode_hardwareReset : decode 0x0C00000000000000#64 = .ok .hardwareReset := by decide
theorem test_decode_disconnect : decode 0x0D00000000000000#64 = .ok .disconnect := by decide
theorem test_decode_getRssi : decode 0x0E00000000000000#64 = .ok .getRssi := by decide
theorem test_decode_getVersion : decode 0x0F00000000000000#64 = .ok .getVersion := by decide
/-- V-SUB-5: of SUB = 0x0F only the low three bits count. -/
theorem test_decode_subscribe : decode 0x100F000000000000#64 = .ok (.subscribe 7) := by decide
theorem test_decode_unsubscribe : decode 0x1103000000000000#64 = .ok (.unsubscribe 3) := by decide
/-- V-ECH-5: `12 02 0000 0009012C`. -/
theorem test_decode_echoStart : decode 0x120200000009012C#64 = .ok (.echoStart false true 300 9) := by decide
theorem test_decode_echoStop : decode 0x1300000000000000#64 = .ok .echoStop := by decide
/-- V-RES-3. -/
theorem test_decode_reserved : decode 0xFF00000000000000#64 = .error (.reservedOpcode 0xFF) := by decide

/-! ### States for one-step tests -/

/-- The reset state with the engine at step `k` of a message and room for 300 actions. -/
def cold (m : Msg) (k : Nat) : State :=
  { State.reset with
    eng := { State.reset.eng with pc := .run m k }
    env := { State.reset.env with quantum := 300 } }

/-- The same, connected in Standby with the pins driven, and with these answers of the chip to come. -/
def warm (m : Msg) (k : Nat) (answers : List Byte) : State :=
  { State.reset with
    pins := { cs := .driven true, rst := .driven true, sclk := .driven false, mosi := .driven false }
    eng := { State.reset.eng with pc := .run m k, handles := true, connected := true, mode := .standby }
    env := { State.reset.env with quantum := 300, miso := answers } }

/-- A command word with no operands, for tests that name the instruction themselves. -/
def anyCmd : Msg := .hcmd 0

/-- A view of the next state, where there is one. -/
def view {α : Type} (f : State → α) (o : Host.Outcome State Fault Refusal) : Option α :=
  match o with
  | .next s => some (f s)
  | .fault _ => none
  | .refused _ => none

/-- The response words a step leaves in RSPQ. -/
def rsp (o : Host.Outcome State Fault Refusal) : Option (List Word) := view (fun s => s.rspq.map responseWord) o

/-- The bus history a step leaves, from a state with none, and the response words. -/
def trace (o : Host.Outcome State Fault Refusal) : Option (List BusEvent × List Word) :=
  view (fun s => (s.bus, s.rspq.map responseWord)) o

/-! ### Commands, one step each -/

/-- V-BEGIN-1, transfers 3 to 34. -/
theorem test_begin_config : trace (exec (.begin 915000000) (warm anyCmd 14 [0, 0, 0, 0x70, 0x70, 0x72])) = some
    ([.write 0x06 0xE4, .write 0x07 0xC0, .write 0x08 0x00, .write 0x0E 0x00, .write 0x0F 0x00, .read 0x0C 0x00,
      .write 0x0C 0x03, .write 0x26 0x04, .write 0x01 0x81, .write 0x4D 0x84, .write 0x0B 0x2B, .write 0x09 0x8C,
      .write 0x01 0x81, .read 0x1E 0x00, .write 0x1E 0x70, .write 0x31 0xC3, .write 0x37 0x0A,
      .write 0x01 0x81, .read 0x1D 0x00, .write 0x1D 0x70, .write 0x01 0x81, .read 0x1D 0x70, .write 0x1D 0x72,
      .read 0x1E 0x70, .write 0x1E 0x74, .read 0x1D 0x72, .write 0x1D 0x72, .write 0x20 0x00, .write 0x21 0x08,
      .write 0x01 0x81, .write 0x39 0x34, .write 0x01 0x81], [0x80010000]) := by decide
/-- V-BEG-5. -/
theorem test_begin_bad_frequency : trace (exec (.begin 136999999) (cold anyCmd 1)) = some ([], [0x86010000]) := by
  decide
/-- V-FRQ-1. -/
theorem test_setFrequency : trace (exec (.setFrequency 868100000) (warm anyCmd 1 [])) = some
    ([.write 0x01 0x81, .write 0x06 0xD9, .write 0x07 0x06, .write 0x08 0x66], [0x80020000]) := by decide
/-- V-FRQ-5: the connection is checked before the range. -/
theorem test_setFrequency_cold : trace (exec (.setFrequency 0) (cold anyCmd 1)) = some ([], [0x81020000]) := by decide
/-- V-SF-1. -/
theorem test_setSf_12 : trace (exec (.setSf 12) (warm anyCmd 1 [0x74])) = some
    ([.write 0x01 0x81, .read 0x1E 0x74, .write 0x1E 0xC4, .write 0x31 0xC3, .write 0x37 0x0A], [0x80030000]) := by
  decide
/-- V-B-1. -/
theorem test_setSf_6 : trace (exec (.setSf 6) (warm anyCmd 1 [0x74, 0x72])) = some
    ([.write 0x01 0x81, .read 0x1E 0x74, .write 0x1E 0x64, .write 0x31 0xC5, .write 0x37 0x0C, .read 0x1D 0x72,
      .write 0x1D 0x73], [0x80030000]) := by decide
/-- V-BW-1. -/
theorem test_setBw : trace (exec (.setBw 9) (warm anyCmd 1 [0x72])) = some
    ([.write 0x01 0x81, .read 0x1D 0x72, .write 0x1D 0x92], [0x80040000]) := by decide
/-- V-BW-4. -/
theorem test_setBw_range : trace (exec (.setBw 10) (warm anyCmd 1 [])) = some ([], [0x86040000]) := by decide
/-- V-CR-4, its second command. -/
theorem test_setCr : trace (exec (.setCr 8) (warm anyCmd 1 [0x92])) = some
    ([.write 0x01 0x81, .read 0x1D 0x92, .write 0x1D 0x98], [0x80050000]) := by decide
/-- V-CR-5. -/
theorem test_setCr_range : trace (exec (.setCr 4) (warm anyCmd 1 [])) = some ([], [0x86050000]) := by decide
/-- V-B-2. -/
theorem test_setTxPower_17 : trace (exec (.setTxPower 17) (warm anyCmd 1 [])) = some
    ([.write 0x01 0x81, .write 0x4D 0x84, .write 0x0B 0x2B, .write 0x09 0x8F], [0x80060000]) := by decide
/-- V-B-3. -/
theorem test_setTxPower_18 : trace (exec (.setTxPower 18) (warm anyCmd 1 [])) = some
    ([.write 0x01 0x81, .write 0x4D 0x87, .write 0x0B 0x3F, .write 0x09 0x8D], [0x80060000]) := by decide
/-- V-SYN-1. -/
theorem test_setSyncWord : view (fun s => (s.bus, cfgRadioWord s.radio)) (exec (.setSyncWord 0x12) (warm anyCmd 1 []))
    = some ([.write 0x01 0x81, .write 0x39 0x12], 0x120E0577) := by decide
/-- V-SYN-4. -/
theorem test_setSyncWord_range : trace (exec (.setSyncWord 256) (warm anyCmd 1 [])) = some ([], [0x86070000]) := by
  decide
/-- V-TX-1, the setup. -/
theorem test_transmit_setup : trace (exec (.transmit 2)
    { warm anyCmd 1 [] with txbuf := [(0x100, 0x48), (0x101, 0x49)] }) = some
    ([.write 0x01 0x81, .write 0x0D 0x00, .write 0x00 0x48, .write 0x00 0x49, .write 0x22 0x02, .write 0x12 0xFF,
      .write 0x01 0x83], []) := by decide
/-- V-TX-1, the second poll. -/
theorem test_transmit_done : view (fun s => (s.bus, s.rspq.map responseWord, s.evtq.map eventHdrWord, s.tx.pending))
    (exec (.transmit 2) { warm anyCmd 9 [0x08] with
      tx := { pending := true, ticks := 20, pollReq := true, edge := false }
      subs := { host := 1, echo := false } }) = some
    ([.read 0x12 0x08, .write 0x12 0x08, .write 0x01 0x81], [0x80080000], [0xA0010000], false) := by decide
/-- V-RXM-2. -/
theorem test_receiveMode : view (fun s => (s.bus, s.rxs.cnt)) (exec (.receiveMode 1000) (warm anyCmd 1 [])) = some
    ([.write 0x01 0x81, .write 0x0D 0x00, .write 0x12 0xFF, .write 0x40 0x00, .write 0x01 0x86], 1001) := by decide
/-- V-RXM-6. -/
theorem test_receiveMode_range : trace (exec (.receiveMode 65536) (warm anyCmd 1 [])) = some ([], [0x86090000]) := by
  decide
/-- V-MOD-1. -/
theorem test_standby : trace (exec .standby (warm anyCmd 1 [])) = some ([.write 0x01 0x81], [0x800A0000]) := by decide
/-- V-MOD-3. -/
theorem test_standby_cold : trace (exec .standby (cold anyCmd 1)) = some ([], [0x810A0000]) := by decide
/-- V-MOD-2. -/
theorem test_sleep : trace (exec .sleep (warm anyCmd 1 [])) = some ([.write 0x01 0x80], [0x800B0000]) := by decide
/-- V-MOD-5, the first stretch. -/
theorem test_hardwareReset : view (fun s => (s.bus, s.eng.waitCnt)) (exec .hardwareReset (warm anyCmd 1 [])) = some
    ([.pin .reset (.driven false)], 11) := by decide
/-- V-MOD-6. -/
theorem test_hardwareReset_cold : trace (exec .hardwareReset (cold anyCmd 1)) = some ([], [0x810C0000]) := by decide
/-- V-MOD-7. -/
theorem test_disconnect : view (fun s => (s.bus, s.rspq.map responseWord, statusWord s &&& 0x1F))
    (exec .disconnect (warm anyCmd 1 [])) = some
    ([.pin .cs .released, .pin .reset .released, .pin .mosi .released, .pin .sclk .released], [0x800D0000], 0x1C) := by
  decide
/-- V-Q-1. -/
theorem test_getVersion : trace (exec .getVersion (warm anyCmd 1 [0x12])) = some ([.read 0x42 0x12], [0x800F0012]) := by
  decide
/-- V-Q-3. -/
theorem test_getRssi : trace (exec .getRssi (warm anyCmd 1 [0x40])) = some ([.read 0x1B 0x40], [0x800EFFA3]) := by
  decide
/-- V-Q-4. -/
theorem test_getRssi_positive : rsp (exec .getRssi (warm anyCmd 1 [0xFF])) = some [0x800E0062] := by decide
/-- V-SUB-1. -/
theorem test_subscribe : view (fun s => (s.rspq.map responseWord, subsWord s)) (exec (.subscribe 3) (cold anyCmd 1)) =
    some ([0x80100000], 0x00000008) := by decide
/-- V-SUB-3. -/
theorem test_unsubscribe : view (fun s => (s.rspq.map responseWord, subsWord s)) (exec (.unsubscribe 3)
    { cold anyCmd 1 with subs := { host := 0x0C, echo := true } }) = some ([0x80110000], 0x00000104) := by decide
/-- V-ECH-4. -/
theorem test_echoStart : view (fun s => (s.rspq.map responseWord, csrValue s 0x034, csrValue s 0x080))
    (exec (.echoStart true true 0 3)
      { cold anyCmd 1 with txbuf := [(0x100, 0x61), (0x101, 0x62), (0x102, 0x3A)] }) =
    some ([0x80120000], 0x00030000, 0x4F3A6261) := by decide
/-- V-ECH-3. -/
theorem test_echoStart_long : rsp (exec (.echoStart true false 0 33) (cold anyCmd 1)) = some [0x86120000] := by decide
/-- V-ECH-7, before the sequencer's step. -/
theorem test_echoStop : view (fun s => (s.rspq.map responseWord, subsWord s, s.ectl.run)) (exec .echoStop
    { cold anyCmd 1 with
      subs := { host := 1, echo := true }
      ectl := { State.reset.ectl with run := true, session := 1 } }) = some ([0x80130000], 0x00000001, false) := by
  decide

/-! ### The other agents -/

/-- V-RX-1: the bus and what the host then reads. -/
theorem test_dispatch_frame : view (fun s => (s.bus, s.evtq.map eventHdrWord, eventMetaWord (popEvent s).evtCur))
    (dioDispatch { warm .edge 1 [0x40, 0x00, 0x02, 0x48, 0x49, 0x9D, 0x14] with
      subs := { host := 1, echo := false } }) = some
    ([.read 0x12 0x40, .read 0x10 0x00, .write 0x0D 0x00, .read 0x13 0x02, .read 0x00 0x48, .read 0x00 0x49,
      .read 0x1A 0x9D, .read 0x19 0x14, .write 0x12 0x40], [0x90010002], 0x00000014) := by decide
/-- V-DIS-6. -/
theorem test_dispatch_crc : view (fun s => (s.bus, s.evtq)) (dioDispatch (warm .edge 1 [0xFF])) = some
    ([.read 0x12 0xFF, .write 0x12 0x60], []) := by decide
/-- V-CSR-1, V-CSR-3. -/
theorem test_status_at_reset : (hostRead 0x006 State.reset).host.rdata = 0x0000001C := by decide
/-- V-CSR-4. -/
theorem test_txbuf_little_endian : (List.range 4).map (fun i => txByte (hostWrite 0x104 0x44434241 State.reset) (4 + i))
    = [0x41, 0x42, 0x43, 0x44] := by decide
/-- V-ECH-1: apply START. -/
theorem test_echo_start_applied : (echoStep .arm { State.reset with
    ectl := { State.reset.ectl with run := true, session := 1 } }).eseq.armCnt = 101 := by decide
/-- The word the host interface of this row places first runs in the next step: STANDBY from reset (V-MOD-3). -/
theorem test_step_runs_fetched_word : rsp (step (State.reset.withFetchWord 64 0x0A00000000000000)) = some [0x810A0000] := by
  decide

/-! ### Witnesses: states and operands that meet the hypotheses of each obligation, clause by clause -/

/-- No transfer fails where `spi_err_i` is not connected. -/
theorem noSpiErr_unconnected {s : State} (n : Nat) (h : s.cfg.hasSpiErr = false) : noSpiErr s n := by
  intro j _
  simp [h]

/-- Room for a reply of the host, or none. -/
def full (s : State) : State := { s with rspq := List.replicate 8 ⟨.ok, 0x0F, 0⟩ }

/-- The same state executing an echo call of session 1. -/
def called (s : State) : State := { s with eng := { s.eng with origin := .echo 1 } }

/-- The same state with `spi_err_i` connected and high at the next transfer. -/
def failing (s : State) : State :=
  { s with cfg := { s.cfg with hasSpiErr := true }, env := { s.env with spiErr := [true] } }

/-- The same state with a tick countdown of `Wait`. -/
def waiting (n : BitVec 14) (s : State) : State := { s with eng := { s.eng with waitCnt := n } }

theorem test_witness_DecodeOfEncode : (Instr.echoStart true true 65535 255).wellFormed = true ∧
    (Instr.begin 4294967295).wellFormed = true ∧ (Instr.subscribe 7).wellFormed = true := by decide

theorem test_witness_DecodeReadsOnlyUsedFields :
    (opField 0x0300FFFF00000007 = opField 0x0355000000000007 ∧ (opField 0x0300FFFF00000007).toNat ≤ 9 ∧
      argField 0x0300FFFF00000007 = argField 0x0355000000000007) ∧
    (opField 0x0AFFFFFF00000001 = opField 0x0A00000000000000 ∧ 0x0A ≤ (opField 0x0A00000000000000).toNat) ∧
    (opField 0x100F000000000000 = opField 0x1007000000000000 ∧
      (0x100F000000000000 : CmdWord).extractLsb' 48 3 = (0x1007000000000000 : CmdWord).extractLsb' 48 3) ∧
    (opField 0x120700000009012C = opField 0x12030000FF09012C ∧
      (0x120700000009012C : CmdWord).extractLsb' 48 2 = (0x12030000FF09012C : CmdWord).extractLsb' 48 2 ∧
      (0x120700000009012C : CmdWord).extractLsb' 0 24 = (0x12030000FF09012C : CmdWord).extractLsb' 0 24) ∧
    (opField 0x13FF000000000000 = opField 0x1300000000000001 ∧ 0x13 ≤ (opField 0x1300000000000001).toNat) := by
  decide

/-- The engine's turn is next and it would take this message. -/
def offered (m : List Msg) : State :=
  { State.reset with inq := m, env := { State.reset.env with turns := [.eng 4] } }

theorem test_witness_StepRunsDecodedMessage :
    nextTurn (offered [.edge]) = .eng 4 ∧
    (currentMsg (offered [.hcmd 0x0A00000000000000]) = some (.hcmd 0x0A00000000000000) ∧
      decode 0x0A00000000000000 = .ok .standby) ∧
    (currentMsg (offered [.hcmd 0xFF00000000000000]) = some (.hcmd 0xFF00000000000000) ∧
      decode 0xFF00000000000000 = .error (.reservedOpcode 0xFF)) ∧
    currentMsg (offered [.ecall .receiveMode 0 1]) = some (.ecall .receiveMode 0 1) ∧
    currentMsg (offered [.ecall .transmit 7 1]) = some (.ecall .transmit 7 1) ∧
    currentMsg (offered [.edge]) = some .edge ∧ currentMsg (offered [.rxtmo]) = some .rxtmo ∧
    currentMsg (offered []) = none := by decide

theorem test_witness_EngineTakesHeadOfInq :
    (offered [.rxtmo, .edge]).eng.pc = .idle ∧ (offered [.rxtmo, .edge]).inq = .rxtmo :: [.edge] ∧
    (offered []).inq = [] ∧ (offered [.edge]).inq = .edge :: [] ∧ (offered [.hcmd 0]).inq = .hcmd 0 :: [] ∧
    (offered [.ecall .transmit 7 1]).inq = .ecall .transmit 7 1 :: [] := by decide

/-- A STANDBY that does one action in its first turn and one in its second. -/
theorem test_witness_EngineTurnsCompose : ∃ t u, (warm anyCmd 1 []).eng.pc ≠ .idle ∧
    runMsg (.hcmd 0x0A00000000000000) (withQuantum 1 (warm anyCmd 1 [])) = .next t ∧ t.eng.pc ≠ .idle ∧
    runMsg (.hcmd 0x0A00000000000000) (withQuantum 1 t) = .next u :=
  ⟨_, _, by decide, rfl, by decide, rfl⟩

theorem test_witness_ReservedOpcodeAnswersInvalidParam :
    (opField 0 = 0 ∧ (cold (.hcmd 0) 1).eng.pc = .run (.hcmd 0) 1 ∧ (cold (.hcmd 0) 1).eng.origin = .host ∧
      1 ≤ (cold (.hcmd 0) 1).env.quantum) ∧
    0x14 ≤ (opField 0x1400000000000000).toNat ∧ 0x14 ≤ (opField 0xFF00000000000000).toNat := by decide

theorem test_witness_FailedCheckOnlyAnswers :
    ((cold anyCmd 1).eng.pc = .run anyCmd 1 ∧ canReply (cold anyCmd 1) = true ∧ 2 ≤ (cold anyCmd 1).env.quantum) ∧
    checkFailure (.begin 136999999) (cold anyCmd 1) = some .invalidParam ∧
    checkFailure (.begin 136999999) (warm anyCmd 1 []) = some .resourceBusy ∧
    checkFailure (.setFrequency 0) (cold anyCmd 1) = some .notConnected ∧
    checkFailure (.setSf 13) (warm anyCmd 1 []) = some .invalidParam ∧
    checkFailure (.setBw 10) (warm anyCmd 1 []) = some .invalidParam ∧
    checkFailure (.setCr 4) (warm anyCmd 1 []) = some .invalidParam ∧
    checkFailure (.setTxPower 21) (warm anyCmd 1 []) = some .invalidParam ∧
    checkFailure (.setSyncWord 256) (warm anyCmd 1 []) = some .invalidParam ∧
    checkFailure (.transmit 0) (warm anyCmd 1 []) = some .invalidParam ∧
    checkFailure (.receiveMode 65536) (warm anyCmd 1 []) = some .invalidParam ∧
    checkFailure .getRssi (cold anyCmd 1) = some .notConnected ∧
    checkFailure (.echoStart true false 0 33) (cold anyCmd 1) = some .invalidParam ∧
    checkFailure (.echoStart true false 0 33)
      { cold anyCmd 1 with ectl := { State.reset.ectl with run := true } } = some .alreadyRunning := by decide

/-- A host's STANDBY that ends, one that holds at a full RSPQ, and an echo call's reply. -/
theorem test_witness_CommandAnswersExactlyOnce :
    (∃ t, (warm anyCmd 1 []).eng.pc = .run anyCmd 1 ∧ exec .standby (warm anyCmd 1 []) = .next t ∧
      (warm anyCmd 1 []).eng.origin = .host ∧ t.eng.pc = .idle) ∧
    (∃ t, exec .standby (full (warm anyCmd 1 [])) = .next t ∧ t.eng.pc ≠ .idle) ∧
    (∃ t, exec (.receiveMode 0) (called (warm anyCmd 1 [])) = .next t ∧
      (called (warm anyCmd 1 [])).eng.origin = .echo 1 ∧ t.rpl.valid = true) :=
  ⟨⟨_, rfl, rfl, rfl, rfl⟩, ⟨_, rfl, by decide⟩, ⟨_, rfl, rfl, rfl⟩⟩

theorem test_witness_IoErrorUndoesTheLink :
    (canReply (warm anyCmd 3 []) = true ∧ (warm anyCmd 3 []).tx.pending = false) ∧
    (canReply { warm anyCmd 9 [] with tx := { State.reset.tx with pending := true } } = true) ∧
    canReply (full (warm anyCmd 3 [])) = false := by decide

/-- The payload-length write of a TRANSMIT, the transfer of its step 6, for the clause on every transfer. -/
theorem test_witness_FailedTransfers_every :
    let m : Msg := .hcmd 0x0800000000000001
    let s := failing (warm m 6 [])
    ∃ u, s.eng.pc = .run m 6 ∧ spiErrNow s = true ∧ 1 ≤ s.env.quantum ∧
      runMsg m (withQuantum 1 (unfailing s)) = .next u ∧ u.bus = s.bus ++ [.write 0x22 0x01] ∧
      isTransfer (.write 0x22 0x01) = true :=
  ⟨_, rfl, by decide, by decide, rfl, by decide, rfl⟩

/-- A poll of the TX wait, at the boundary `k = 9` of the clause on every transfer. -/
theorem test_witness_FailedTransfers_poll :
    let m : Msg := .hcmd 0x0800000000000001
    let s : State := { failing (warm m 9 [0x08]) with tx := { pending := true, ticks := 10, pollReq := true, edge := false } }
    ∃ u, s.eng.pc = .run m 9 ∧ spiErrNow s = true ∧ 1 ≤ s.env.quantum ∧ s.tx.pollReq = true ∧
      s.tx.pending = true ∧ canReply s = true ∧ s.eng.origin = .host ∧ (called s).eng.origin = .echo 1 ∧
      ({ s with subs := { host := 1, echo := false } } : State).subs.host ≠ 0 ∧ s.evtq.length < s.cfg.evtqDepth ∧
      runMsg m (withQuantum 1 (unfailing s)) = .next u ∧ u.bus = s.bus ++ [.read 0x12 0x08] :=
  ⟨_, rfl, by decide, by decide, rfl, rfl, by decide, rfl, rfl, by decide, by decide, rfl, by decide⟩

/-- The named transfers, each at its step. -/
theorem test_witness_FailedTransfersEndTheMessage :
    (∀ m k, (failing (warm m k [])).eng.pc = .run m k ∧ spiErrNow (failing (warm m k [])) = true ∧
      1 ≤ (failing (warm m k [])).env.quantum) ∧
    ({ warm anyCmd 3 [] with eng := { State.reset.eng with pc := .failed anyCmd } } : State).eng.pc = .failed anyCmd ∧
    ({ failing (warm .rxtmo 1 []) with rxs := { cnt := 0, fired := true, queued := false } } : State).rxs.fired = true :=
  ⟨fun _ _ => ⟨rfl, rfl, (by decide : 1 ≤ 300)⟩, rfl, rfl⟩

/-- What the completion statements ask of the state, all at once. -/
theorem test_witness_warm (n : Nat) : (warm anyCmd 1 []).eng.pc = .run anyCmd 1 ∧
    (warm anyCmd 1 []).eng.connected = true ∧ canReply (warm anyCmd 1 []) = true ∧ noSpiErr (warm anyCmd 1 []) n ∧
    (warm anyCmd 1 []).env.quantum = 300 :=
  ⟨rfl, rfl, by decide, noSpiErr_unconnected n rfl, rfl⟩

/-- The smallest and the largest frequency. -/
theorem test_witness_SetFrequencyCompletes : (∃ f, f = 137000000 ∧ 137000000 ≤ f ∧ f ≤ 1020000000) ∧
    (∃ f, f = 1020000000 ∧ 137000000 ≤ f ∧ f ≤ 1020000000) ∧ (warm anyCmd 1 []).eng.pc = .run anyCmd 1 ∧
    (warm anyCmd 1 []).eng.connected = true ∧ canReply (warm anyCmd 1 []) = true ∧ noSpiErr (warm anyCmd 1 []) 4 ∧
    7 ≤ (warm anyCmd 1 []).env.quantum :=
  ⟨⟨_, rfl, by decide, by decide⟩, ⟨_, rfl, by decide, by decide⟩, rfl, rfl, by decide, noSpiErr_unconnected 4 rfl,
    by decide⟩

/-- SF 7 and 12 for the first clause, SF 6 for the second. -/
theorem test_witness_SetSfCompletes : (∃ sf, sf = 7 ∧ 7 ≤ sf ∧ sf ≤ 12) ∧ (∃ sf, sf = 12 ∧ 7 ≤ sf ∧ sf ≤ 12) ∧
    (warm anyCmd 1 []).eng.pc = .run anyCmd 1 ∧ (warm anyCmd 1 []).eng.connected = true ∧
    canReply (warm anyCmd 1 []) = true ∧ noSpiErr (warm anyCmd 1 []) 7 ∧ 10 ≤ (warm anyCmd 1 []).env.quantum :=
  ⟨⟨_, rfl, by decide, by decide⟩, ⟨_, rfl, by decide, by decide⟩, rfl, rfl, by decide, noSpiErr_unconnected 7 rfl,
    by decide⟩

/-- BW 0 and 9; CR 5 and 8. -/
theorem test_witness_SetBwAndSetCrComplete : (∃ v, v = 0 ∧ v ≤ 9) ∧ (∃ v, v = 9 ∧ v ≤ 9) ∧
    (∃ v, v = 5 ∧ 5 ≤ v ∧ v ≤ 8) ∧ (∃ v, v = 8 ∧ 5 ≤ v ∧ v ≤ 8) ∧
    (warm anyCmd 1 []).eng.pc = .run anyCmd 1 ∧ (warm anyCmd 1 []).eng.connected = true ∧
    canReply (warm anyCmd 1 []) = true ∧ noSpiErr (warm anyCmd 1 []) 3 ∧ 6 ≤ (warm anyCmd 1 []).env.quantum :=
  ⟨⟨_, rfl, by decide⟩, ⟨_, rfl, by decide⟩, ⟨_, rfl, by decide, by decide⟩, ⟨_, rfl, by decide, by decide⟩, rfl, rfl,
    by decide, noSpiErr_unconnected 3 rfl, by decide⟩

/-- Powers 2 and 17 for the first clause, 18 and 20 for the second; sync word 255 for the third. -/
theorem test_witness_SetTxPowerAndSyncWordComplete : (∃ v, v = 2 ∧ 2 ≤ v ∧ v ≤ 17) ∧ (∃ v, v = 17 ∧ 2 ≤ v ∧ v ≤ 17) ∧
    (∃ v, v = 18 ∧ 18 ≤ v ∧ v ≤ 20) ∧ (∃ v, v = 20 ∧ 18 ≤ v ∧ v ≤ 20) ∧ (∃ v, v = 255 ∧ v ≤ 255) ∧
    (warm anyCmd 1 []).eng.pc = .run anyCmd 1 ∧ (warm anyCmd 1 []).eng.connected = true ∧
    canReply (warm anyCmd 1 []) = true ∧ noSpiErr (warm anyCmd 1 []) 4 ∧ 7 ≤ (warm anyCmd 1 []).env.quantum :=
  ⟨⟨_, rfl, by decide, by decide⟩, ⟨_, rfl, by decide, by decide⟩, ⟨_, rfl, by decide, by decide⟩,
    ⟨_, rfl, by decide, by decide⟩, ⟨_, rfl, by decide⟩, rfl, rfl, by decide, noSpiErr_unconnected 4 rfl, by decide⟩

theorem test_witness_FrfErrsByHalfAStep : freqOk 137000000 = true ∧ freqOk 915000031 = true ∧
    freqOk 1020000000 = true := by decide

theorem test_witness_StandbyAndSleepComplete :
    ((cold anyCmd 1).eng.pc = .run anyCmd 1 ∧ (cold anyCmd 1).eng.connected = false ∧ canReply (cold anyCmd 1) = true ∧
      noSpiErr (cold anyCmd 1) 1 ∧ 3 ≤ (cold anyCmd 1).env.quantum) ∧
    ((warm anyCmd 1 []).eng.pc = .run anyCmd 1 ∧ (warm anyCmd 1 []).eng.connected = true ∧
      canReply (warm anyCmd 1 []) = true ∧ noSpiErr (warm anyCmd 1 []) 1 ∧ 3 ≤ (warm anyCmd 1 []).env.quantum) :=
  ⟨⟨rfl, rfl, by decide, noSpiErr_unconnected 1 rfl, by decide⟩,
   ⟨rfl, rfl, by decide, noSpiErr_unconnected 1 rfl, by decide⟩⟩

/-- Timeouts 0, 1 and 65535. -/
theorem test_witness_ReceiveModeCompletes : (∃ t, t = 0 ∧ t ≤ 65535) ∧ (∃ t, t = 1 ∧ t ≤ 65535) ∧
    (∃ t, t = 65535 ∧ t ≤ 65535) ∧ (warm anyCmd 1 []).eng.pc = .run anyCmd 1 ∧
    (warm anyCmd 1 []).eng.connected = true ∧ canReply (warm anyCmd 1 []) = true ∧ noSpiErr (warm anyCmd 1 []) 5 ∧
    8 ≤ (warm anyCmd 1 []).env.quantum :=
  ⟨⟨_, rfl, by decide⟩, ⟨_, rfl, by decide⟩, ⟨_, rfl, by decide⟩, rfl, rfl, by decide, noSpiErr_unconnected 5 rfl,
    by decide⟩

theorem test_witness_HardwareResetCompletes :
    ((warm anyCmd 1 []).eng.pc = .run anyCmd 1 ∧ (warm anyCmd 1 []).eng.connected = true ∧
      4 ≤ (warm anyCmd 1 []).env.quantum) ∧
    ((warm anyCmd 4 []).eng.pc = .run anyCmd 4 ∧ (warm anyCmd 4 []).eng.waitCnt = 0) ∧
    ((warm anyCmd 7 []).eng.pc = .run anyCmd 7 ∧ (warm anyCmd 7 []).eng.waitCnt = 0 ∧
      canReply (warm anyCmd 7 []) = true) ∧
    ((waiting 1 (warm anyCmd 4 [])).eng.pc = .run anyCmd 4 ∧ (waiting 1 (warm anyCmd 4 [])).eng.waitCnt ≠ 0) ∧
    ((waiting 11 (warm anyCmd 7 [])).eng.pc = .run anyCmd 7 ∧ (waiting 11 (warm anyCmd 7 [])).eng.waitCnt ≠ 0) := by
  decide

theorem test_witness_DisconnectCompletes :
    ((warm anyCmd 1 []).eng.pc = .run anyCmd 1 ∧ (warm anyCmd 1 []).eng.handles = true ∧
      canReply (warm anyCmd 1 []) = true ∧ 1 ≤ (warm anyCmd 1 []).env.quantum) ∧
    ((cold anyCmd 1).eng.pc = .run anyCmd 1 ∧ (cold anyCmd 1).eng.handles = false ∧
      canReply (cold anyCmd 1) = true ∧ 1 ≤ (cold anyCmd 1).env.quantum) := by decide

theorem test_witness_QueriesComplete : (warm anyCmd 1 [0xFF]).eng.pc = .run anyCmd 1 ∧
    (warm anyCmd 1 [0xFF]).eng.connected = true ∧ canReply (warm anyCmd 1 [0xFF]) = true ∧
    noSpiErr (warm anyCmd 1 [0xFF]) 1 ∧ 3 ≤ (warm anyCmd 1 [0xFF]).env.quantum :=
  ⟨rfl, rfl, by decide, noSpiErr_unconnected 1 rfl, by decide⟩

/-- Ids 0 and 7. -/
theorem test_witness_SubscriptionCompletes : (∃ id, id = 0 ∧ id < 8) ∧ (∃ id, id = 7 ∧ id < 8) ∧
    (cold anyCmd 1).eng.pc = .run anyCmd 1 ∧ canReply (cold anyCmd 1) = true ∧ 1 ≤ (cold anyCmd 1).env.quantum :=
  ⟨⟨_, rfl, by decide⟩, ⟨_, rfl, by decide⟩, rfl, by decide, by decide⟩

theorem test_witness_BeginOpensAndResetsTheChip :
    ((cold anyCmd 1).eng.pc = .run anyCmd 1 ∧ (cold anyCmd 1).eng.connected = false ∧ freqOk 137000000 = true ∧
      5 ≤ (cold anyCmd 1).env.quantum) ∧
    ((cold anyCmd 6).eng.pc = .run anyCmd 6 ∧ (cold anyCmd 6).eng.waitCnt = 0) ∧
    ((warm anyCmd 9 [0x12]).eng.pc = .run anyCmd 9 ∧ (warm anyCmd 9 [0x12]).eng.waitCnt = 0 ∧
      answer (warm anyCmd 9 [0x12]) 0 = 0x12 ∧ noSpiErr (warm anyCmd 9 [0x12]) 2) ∧
    ((waiting 1 (cold anyCmd 6)).eng.pc = .run anyCmd 6 ∧ (waiting 1 (cold anyCmd 6)).eng.waitCnt ≠ 0) ∧
    ((waiting 1 (cold anyCmd 9)).eng.pc = .run anyCmd 9 ∧ (waiting 1 (cold anyCmd 9)).eng.waitCnt ≠ 0) ∧
    ((waiting 11 (cold anyCmd 14)).eng.pc = .run anyCmd 14 ∧ (waiting 11 (cold anyCmd 14)).eng.waitCnt ≠ 0) :=
  ⟨by decide, by decide, ⟨rfl, rfl, by decide, noSpiErr_unconnected 2 rfl⟩, by decide, by decide, by decide⟩

theorem test_witness_BeginConfiguresAndConnects : (warm anyCmd 14 []).eng.pc = .run anyCmd 14 ∧
    (warm anyCmd 14 []).eng.waitCnt = 0 ∧ canReply (warm anyCmd 14 []) = true ∧ noSpiErr (warm anyCmd 14 []) 32 ∧
    34 ≤ (warm anyCmd 14 []).env.quantum :=
  ⟨rfl, rfl, by decide, noSpiErr_unconnected 32 rfl, by decide⟩

/-- V-BEGIN-2's version, 0x11. -/
theorem test_witness_BeginRejectsAnotherChip : (warm anyCmd 9 [0x11]).eng.pc = .run anyCmd 9 ∧
    (warm anyCmd 9 [0x11]).eng.waitCnt = 0 ∧ answer (warm anyCmd 9 [0x11]) 0 ≠ 0x12 ∧
    noSpiErr (warm anyCmd 9 [0x11]) 1 ∧ canReply (warm anyCmd 9 [0x11]) = true ∧
    3 ≤ (warm anyCmd 9 [0x11]).env.quantum :=
  ⟨rfl, rfl, by decide, noSpiErr_unconnected 1 rfl, by decide, by decide⟩

/-- Lengths 1 and 255, of a host command and of an echo call. -/
theorem test_witness_TransmitSetsUpAndWaits : (∃ n, n = 1 ∧ 1 ≤ n ∧ n ≤ 255) ∧
    (∃ n, n = 255 ∧ 1 ≤ n ∧ n ≤ 255 ∧ noSpiErr (warm anyCmd 1 []) (n + 5) ∧
      n + 7 ≤ (warm anyCmd 1 []).env.quantum) ∧
    (warm anyCmd 1 []).eng.pc = .run anyCmd 1 ∧ (warm anyCmd 1 []).eng.connected = true ∧
    (warm anyCmd 1 []).eng.origin = .host ∧ (called (warm anyCmd 1 [])).eng.origin = .echo 1 :=
  ⟨⟨_, rfl, by decide, by decide⟩, ⟨_, rfl, by decide, by decide, noSpiErr_unconnected _ rfl, by decide⟩, rfl, rfl, rfl,
    rfl⟩

/-- The TX wait at a tick count, with a poll asked for or not. -/
def polling (ticks : BitVec 13) (poll : Bool) (answers : List Byte) : State :=
  { warm anyCmd 9 answers with tx := { pending := true, ticks := ticks, pollReq := poll, edge := false } }

theorem test_witness_TransmitEndsOk : (polling 5000 true [0x08]).eng.pc = .run anyCmd 9 ∧
    (polling 5000 true [0x08]).tx.pollReq = true ∧ answer (polling 5000 true [0x08]) 0 &&& 0x08 ≠ 0 ∧
    noSpiErr (polling 5000 true [0x08]) 3 ∧ canReply (polling 5000 true [0x08]) = true ∧
    4 ≤ (polling 5000 true [0x08]).env.quantum :=
  ⟨rfl, rfl, by decide, noSpiErr_unconnected 3 rfl, by decide, by decide⟩

/-- No trigger; a poll at tick 4999; a poll at tick 5000. -/
theorem test_witness_TransmitPollsAndTimesOut :
    ((polling 9 false []).eng.pc = .run anyCmd 9 ∧ 3 ≤ (polling 9 false []).env.quantum ∧
      (polling 9 false []).tx.pollReq = false ∧ (polling 9 false []).tx.edge = false) ∧
    ((polling 4999 true [0xF7]).tx.pollReq = true ∧ answer (polling 4999 true [0xF7]) 0 &&& 0x08 = 0 ∧
      (polling 4999 true [0xF7]).tx.ticks.toNat < 5000 ∧ noSpiErr (polling 4999 true [0xF7]) 1) ∧
    ((polling 5000 true [0x00]).tx.pollReq = true ∧ answer (polling 5000 true [0x00]) 0 &&& 0x08 = 0 ∧
      5000 ≤ (polling 5000 true [0x00]).tx.ticks.toNat ∧ noSpiErr (polling 5000 true [0x00]) 2 ∧
      canReply (polling 5000 true [0x00]) = true) :=
  ⟨by decide, ⟨rfl, by decide, by decide, noSpiErr_unconnected 1 rfl⟩,
    ⟨rfl, by decide, by decide, noSpiErr_unconnected 2 rfl, by decide⟩⟩

/-- Prefix lengths 0 and 32 (PREFIX_MAX), and 255 where the prefix is not loaded. -/
theorem test_witness_EchoStartCompletes : (cold anyCmd 1).eng.pc = .run anyCmd 1 ∧ (cold anyCmd 1).ectl.run = false ∧
    (∃ plen, plen = 0 ∧ plen < 256 ∧ (true = true → plen ≤ (cold anyCmd 1).cfg.prefixMax)) ∧
    (∃ plen, plen = 32 ∧ plen < 256 ∧ (true = true → plen ≤ (cold anyCmd 1).cfg.prefixMax) ∧
      plen + 7 ≤ (cold anyCmd 1).env.quantum) ∧
    (∃ plen, plen = 255 ∧ plen < 256 ∧ (false = true → plen ≤ (cold anyCmd 1).cfg.prefixMax) ∧
      plen + 7 ≤ (cold anyCmd 1).env.quantum) ∧
    (cold anyCmd 1).ectl.session + 1 ≠ (cold anyCmd 1).eseq.seen ∧ canReply (cold anyCmd 1) = true :=
  ⟨rfl, rfl, ⟨_, rfl, by decide, by decide⟩, ⟨_, rfl, by decide, by decide, by decide⟩,
    ⟨_, rfl, by decide, by decide, by decide⟩, by decide, by decide⟩

/-- The session one before the one the sequencer last saw. -/
def aliasing : State := { cold anyCmd 7 with ectl := { State.reset.ectl with session := 0xFFFFFFFF } }

theorem test_witness_EchoStartStopsOnSessionAlias : aliasing.eng.pc = .run anyCmd 7 ∧
    aliasing.ectl.session + 1 = aliasing.eseq.seen ∧ canReply aliasing = true ∧ 1 ≤ aliasing.env.quantum := by decide

theorem test_witness_EchoStopCompletes : (cold anyCmd 1).eng.pc = .run anyCmd 1 ∧ canReply (cold anyCmd 1) = true ∧
    1 ≤ (cold anyCmd 1).env.quantum := by decide

theorem test_witness_DispatchDropsWithoutEvent :
    ((cold .edge 1).eng.pc = .run .edge 1 ∧ noSpiErr (cold .edge 1) 6 ∧ 9 ≤ (cold .edge 1).env.quantum ∧
      (cold .edge 1).eng.connected = false) ∧
    ((warm .edge 1 [0x60]).eng.pc = .run .edge 1 ∧ noSpiErr (warm .edge 1 [0x60]) 6 ∧
      (warm .edge 1 [0x60]).eng.connected = true ∧ answer (warm .edge 1 [0x60]) 0 &&& 0x40 ≠ 0 ∧
      answer (warm .edge 1 [0x60]) 0 &&& 0x20 ≠ 0) ∧
    (answer (warm .edge 1 [0x40, 0x80, 0x00]) 0 &&& 0x40 ≠ 0 ∧ answer (warm .edge 1 [0x40, 0x80, 0x00]) 0 &&& 0x20 = 0 ∧
      answer (warm .edge 1 [0x40, 0x80, 0x00]) 2 = 0) ∧
    (answer (warm .edge 1 [0x08]) 0 &&& 0x40 = 0 ∧ answer (warm .edge 1 [0x08]) 0 ≠ 0) ∧
    answer (warm .edge 1 [0x00]) 0 = 0 :=
  ⟨⟨rfl, noSpiErr_unconnected 6 rfl, by decide, rfl⟩, ⟨rfl, noSpiErr_unconnected 6 rfl, rfl, by decide, by decide⟩,
    by decide, by decide, by decide⟩

/-- Frames of 1 and of 255 bytes. -/
theorem test_witness_DispatchExtractsFrame :
    ((warm .edge 1 [0x40, 0x00, 0x01]).eng.pc = .run .edge 1 ∧ (warm .edge 1 [0x40, 0x00, 0x01]).eng.connected = true ∧
      answer (warm .edge 1 [0x40, 0x00, 0x01]) 0 &&& 0x40 ≠ 0 ∧ answer (warm .edge 1 [0x40, 0x00, 0x01]) 0 &&& 0x20 = 0 ∧
      1 = (answer (warm .edge 1 [0x40, 0x00, 0x01]) 2).toNat ∧
      (warm .edge 1 [0x40, 0x00, 0x01]).work.rxb.length = 255 ∧ noSpiErr (warm .edge 1 [0x40, 0x00, 0x01]) 9) ∧
    (255 = (answer (warm .edge 1 [0x48, 0x00, 0xFF]) 2).toNat ∧ noSpiErr (warm .edge 1 [0x48, 0x00, 0xFF]) 263 ∧
      255 + 12 ≤ (warm .edge 1 [0x48, 0x00, 0xFF]).env.quantum) :=
  ⟨⟨rfl, rfl, by decide, by decide, by decide, List.length_replicate, noSpiErr_unconnected 9 rfl⟩,
    ⟨by decide, noSpiErr_unconnected 263 rfl, by decide⟩⟩

theorem test_witness_RxTimeoutReturnsToStandby :
    ((cold .rxtmo 1).eng.pc = .run .rxtmo 1 ∧ 1 ≤ (cold .rxtmo 1).env.quantum ∧ (cold .rxtmo 1).rxs.fired = false) ∧
    ((warm .rxtmo 1 []).eng.pc = .run .rxtmo 1 ∧ noSpiErr (warm .rxtmo 1 []) 1 ∧
      ({ warm .rxtmo 1 [] with rxs := { cnt := 0, fired := true, queued := false } } : State).rxs.fired = true) :=
  ⟨by decide, ⟨rfl, noSpiErr_unconnected 1 rfl, rfl⟩⟩

/-- Subscribed states with this many event records and sequencer entries. -/
def subscribed (evts entries : Nat) (kind : EventKind) : State :=
  { State.reset with
    subs := { host := 1, echo := true }
    evtq := List.replicate evts ⟨txEvent .txDone .ok false, 1⟩
    eq := List.replicate entries ⟨kind, 0, []⟩ }

theorem test_witness_EmitDelivers :
    (State.reset.subs.host = 0 ∧ State.reset.subs.echo = false) ∧
    ((subscribed 7 2 .rxFrame).subs.host ≠ 0 ∧ (subscribed 7 2 .rxFrame).evtq.length < (subscribed 7 2 .rxFrame).cfg.evtqDepth ∧
      (subscribed 7 2 .rxFrame).subs.echo = true ∧
      (subscribed 7 2 .rxFrame).eq.length + 2 ≤ (subscribed 7 2 .rxFrame).cfg.eqDepth) ∧
    ((subscribed 8 3 .rxFrame).cfg.evtqDepth ≤ (subscribed 8 3 .rxFrame).evtq.length ∧
      (subscribed 8 3 .rxFrame).cfg.eqDepth < (subscribed 8 3 .rxFrame).eq.length + 2 ∧
      (subscribed 8 3 .rxFrame).eq.length < (subscribed 8 3 .rxFrame).cfg.eqDepth) ∧
    ((subscribed 0 4 .txDone).cfg.eqDepth ≤ (subscribed 0 4 .txDone).eq.length ∧
      ∃ l x q, (subscribed 0 4 .txDone).eq = l ++ x :: q ∧ x.kind ≠ .rxFrame ∧ ∀ y ∈ q, y.kind = .rxFrame) :=
  ⟨by decide, by decide, by decide, by decide,
    ⟨List.replicate 3 ⟨.txDone, 0, []⟩, ⟨.txDone, 0, []⟩, [], rfl, by decide, by simp⟩⟩

theorem test_witness_TickCountsDown :
    ({ State.reset with rxs := { cnt := 1, fired := false, queued := false } } : State).rxs.cnt.toNat = 1 ∧
    State.reset.rxs.cnt.toNat ≠ 1 ∧ (polling 9 false []).tx.pending = true ∧ State.reset.tx.pending = false := by decide

theorem test_witness_EdgeIsRouted :
    State.reset.eng.handles = false ∧
    ((polling 9 false []).eng.handles = true ∧ (polling 9 false []).tx.pending = true) ∧
    ((warm anyCmd 1 []).eng.handles = true ∧ (warm anyCmd 1 []).tx.pending = false ∧
      (warm anyCmd 1 []).dio.queued = false) ∧
    ({ warm anyCmd 1 [] with dio := { State.reset.dio with queued := true } } : State).dio.queued = true := by decide

/-- The first and the last byte address of the TXBUF window. -/
theorem test_witness_TxbufWriteSetsFourBytes : 0x100 ≤ (0x100 : BusAddr).toNat ∧ (0x100 : BusAddr).toNat < 0x200 ∧
    0x100 ≤ (0x1FF : BusAddr).toNat ∧ (0x1FF : BusAddr).toNat < 0x200 := by decide

theorem test_witness_PoppingReads :
    State.reset.rspq = [] ∧ (full State.reset).rspq = ⟨.ok, 0x0F, 0⟩ :: List.replicate 7 ⟨.ok, 0x0F, 0⟩ ∧
    State.reset.evtq = [] ∧ (subscribed 1 0 .rxFrame).evtq = ⟨txEvent .txDone .ok false, 1⟩ :: [] ∧
    State.reset.evtCur = none ∧
    (∃ c : EvtCur, c.idx = 0 ∧ c.record.event.bytes[c.idx]? = some 0x48) ∧
    (∃ c : EvtCur, c.idx = 1 ∧ c.record.event.bytes[c.idx]? = none) :=
  ⟨rfl, by decide, rfl, by decide, rfl,
    ⟨⟨⟨⟨.rxFrame, .ok, false, 0, 0, [0x48]⟩, 1⟩, 0⟩, rfl, rfl⟩, ⟨⟨⟨⟨.rxFrame, .ok, false, 0, 0, [0x48]⟩, 1⟩, 1⟩, rfl, rfl⟩⟩

/-- Offsets that do not pop: the first, those beside EVT_HDR and EVT_DATA, and the last. -/
theorem test_witness_PoppingReads_others : ∀ a ∈ ([0x000, 0x017, 0x020, 0x028, 0x3FF] : List BusAddr),
    a.toNat / 4 * 4 ∉ [0x018, 0x01C, 0x024] := by decide

/-- EVT_CUR valid with a frame and with a TX event, and the boundaries of the offsets that read 0 or ignore writes. -/
theorem test_witness_RegistersReadAndWrite :
    (∃ c : EvtCur, ({ State.reset with evtCur := some c } : State).evtCur = some c ∧ c.record.event.kind = .rxFrame) ∧
    (∃ c : EvtCur, ({ State.reset with evtCur := some c } : State).evtCur = some c ∧ c.record.event.kind ≠ .rxFrame) ∧
    State.reset.evtCur = none ∧
    (∀ a ∈ ([0x048, 0x07F, 0x0A0, 0x3FF] : List BusAddr),
      (0x048 ≤ a.toNat / 4 * 4 ∧ a.toNat / 4 * 4 < 0x080) ∨ 0x0A0 ≤ a.toNat / 4 * 4) ∧
    (∀ a ∈ ([0x000, 0x007, 0x018, 0x09F, 0x0FF, 0x200] : List BusAddr),
      a.toNat / 4 * 4 ∉ [0x008, 0x00C, 0x010, 0x014] ∧ ¬(0x100 ≤ a.toNat / 4 * 4 ∧ a.toNat / 4 * 4 < 0x200)) :=
  ⟨⟨⟨⟨⟨.rxFrame, .ok, false, 0, 0, [0x48]⟩, 1⟩, 0⟩, rfl, rfl⟩, ⟨⟨⟨txEvent .txDone .ok false, 1⟩, 0⟩, rfl, by decide⟩,
    rfl, by decide, by decide⟩

theorem test_witness_OtherAgentsLeaveTheEngineAlone : ∃ s t : State, t = timerTick s ∧ t ≠ s :=
  ⟨waiting 1 State.reset, _, rfl, by decide⟩

theorem test_witness_QuiescentChangesNothing : quiescent State.reset = true ∧
    echoEnabled (subscribed 0 1 .rxFrame) = true := by decide

/-- The echo sequencer of session 1 in a state, with these entries in EQ. -/
def echoing (st : EchoState) (entries : List EqEntry) : State :=
  { warm anyCmd 1 [] with
    eng := { State.reset.eng with handles := true, connected := true, mode := .rxCont }
    subs := { host := 0, echo := true }
    ectl := { State.reset.ectl with run := true, session := 1 }
    eseq := { State.reset.eseq with state := st, seen := 1, rxc := 1 }
    eq := entries
    env := { State.reset.env with turns := [.echo .event] } }

theorem test_witness_EchoControlIsApplied :
    (({ echoing .listening [] with eseq := { (echoing .listening []).eseq with await := .recv } } : State).eseq.await
        ≠ .none ∧ (echoing .listening []).rpl.valid = false) ∧
    (({ State.reset with ectl := { State.reset.ectl with run := true, session := 1 } } : State).ectl.session = 1 ∧
      State.reset.eseq.await = .none ∧ State.reset.eseq.seen = 0) ∧
    (({ echoing .listening [] with ectl := State.reset.ectl } : State).ectl.run = false ∧
      (echoing .listening []).eseq.await = .none ∧ (echoing .listening []).eseq.state ≠ .idle) := by decide

theorem test_witness_EchoHandlesHeadOfEq :
    (∀ x : EqEntry, (echoing .listening [x]).eq = x :: [] ∧ (echoing .listening [x]).eseq.await = .none ∧
      noControlPending (echoing .listening [x]) = true ∧ (echoing .listening [x]).eseq.buf.length = 255) ∧
    (∃ x : EqEntry, x.session ≠ (echoing .listening [x]).eseq.seen) ∧
    (∃ x : EqEntry, x.session = (echoing .listening [x]).eseq.seen ∧ x.kind = .rxFrame ∧ x.bytes.length = 255) ∧
    (∃ x : EqEntry, (echoing .echoing [x]).eseq.state ≠ .listening ∧ (echoing .echoing [x]).eseq.state ≠ .idle ∧
      noControlPending (echoing .echoing [x]) = true) ∧
    (∃ x : EqEntry, (echoing .waitingTxDone [x]).eseq.state = .waitingTxDone ∧
      x.session = (echoing .waitingTxDone [x]).eseq.seen ∧ x.kind ≠ .rxFrame ∧
      noControlPending (echoing .waitingTxDone [x]) = true) :=
  ⟨fun _ => ⟨rfl, rfl, rfl, List.length_replicate⟩, ⟨⟨.rxFrame, 0, []⟩, by decide⟩,
    ⟨⟨.rxFrame, 1, List.replicate 255 0⟩, rfl, rfl, List.length_replicate⟩,
    ⟨⟨.rxFrame, 1, []⟩, by decide, by decide, rfl⟩, ⟨⟨.txDone, 1, []⟩, rfl, rfl, by decide, rfl⟩⟩

/-- A fired timer of the sequencer. -/
def fired (st : EchoState) : State :=
  { echoing st [] with eseq := { (echoing st []).eseq with armFired := true, echoFired := true } }

theorem test_witness_EchoExpiriesPostCalls :
    ((fired .listening).eseq.await = .none ∧ noControlPending (fired .listening) = true ∧
      (fired .listening).eseq.armFired = true ∧ (fired .listening).eseq.state = .listening ∧
      (fired .listening).eseq.state ≠ .echoing) ∧
    ((fired .echoing).eseq.await = .none ∧ noControlPending (fired .echoing) = true ∧
      (fired .echoing).eseq.echoFired = true ∧ (fired .echoing).eseq.state = .echoing ∧
      (fired .echoing).eseq.state ≠ .listening) := by decide

/-- A reply waiting for the sequencer, of the running session or of another. -/
def replied (a : Await) (st : Status) (sess : Word) : State :=
  { echoing .listening [] with
    eseq := { (echoing .listening []).eseq with await := a, callSess := sess }
    rpl := { valid := true, status := st, session := sess } }

theorem test_witness_EchoConsumesReply :
    ((replied .recv .ok 0).rpl.valid = true ∧ (replied .recv .ok 0).eseq.await ≠ .none ∧
      (replied .recv .ok 0).ectl.session ≠ (replied .recv .ok 0).eseq.callSess) ∧
    ((replied .recv .notConnected 1).ectl.run = true ∧
      (replied .recv .notConnected 1).ectl.session = (replied .recv .notConnected 1).eseq.callSess ∧
      (replied .recv .notConnected 1).eseq.await = .recv) ∧
    ((replied .xmit .ok 1).ectl.session = (replied .xmit .ok 1).eseq.callSess ∧
      (replied .xmit .ok 1).eseq.await = .xmit ∧ (replied .xmit .ok 1).rpl.valid = true) := by decide

theorem test_witness_CommandFrame : ∃ t, (warm anyCmd 1 []).eng.pc ≠ .idle ∧
    exec (.setSf 7) (warm anyCmd 1 [0x74]) = .next t :=
  ⟨_, by decide, rfl⟩

/-- An UNSUBSCRIBE that ends and a SET_SF that is past its third step. -/
theorem test_witness_CommandsChangeOnlyTheirRegisters : ∃ t u, (warm anyCmd 1 []).eng.pc ≠ .idle ∧
    exec (.unsubscribe 0) (warm anyCmd 1 []) = .next t ∧ t.eng.pc = .idle ∧
    exec (.setSf 7) (withQuantum 3 (warm anyCmd 1 [])) = .next u ∧ u.eng.pc ≠ .idle :=
  ⟨_, _, by decide, rfl, rfl, rfl, by decide⟩

theorem test_witness_WorkingRegistersAreWrittenFirst :
    let t : State := { warm .edge 1 [] with work := { State.reset.work with irq := 0x40, n := 9 } }
    (warm .edge 1 []).eng.pc = .run .edge 1 ∧ SameButWork (warm .edge 1 []) t ∧ warm .edge 1 [] ≠ t ∧
    (warm .edge 1 []).work.rxb.length = 255 ∧ t.work.rxb.length = 255 :=
  ⟨rfl, rfl, fun h => absurd (congrArg (fun s => s.work.irq) h) (by decide), List.length_replicate,
    List.length_replicate⟩

/-! A state that meets every invariant: the sequencer in WaitingTxDone with its TX event in EQ, and the engine at the
start of a STANDBY, with the bus history of an OpenHandles behind it. -/

/-- The state of the witnesses of the invariants. -/
def busy : State :=
  { echoing .waitingTxDone [⟨.txDone, 1, []⟩] with
    eng :=
      { pc := .run (.hcmd 0x0A00000000000000) 1, origin := .host, handles := true, connected := true, mode := .rxCont,
        waitCnt := 0 }
    bus := [.pin .cs (.driven true), .write 0x01 0x81]
    eseq := { (echoing .waitingTxDone []).eseq with txc := 1 }
    env := { State.reset.env with turns := [.eng 9] } }

theorem test_witness_busy_steps : ∃ t, step busy = .next t ∧ t.rspq ≠ [] := ⟨_, rfl, by decide⟩

theorem test_witness_StepKeepsStorage : StorageOk busy :=
  ⟨by decide, by decide, by decide, by decide, by decide, by decide, fun h => absurd h (by decide), by decide, by decide,
    List.length_replicate, List.length_replicate⟩

theorem test_witness_StepKeepsLink : LinkOk busy ∧ HistoryOk busy := by decide

theorem test_witness_StepKeepsTxPending : TxOk busy ∧ TxOk
    { polling 9 true [] with eng :=
        { State.reset.eng with pc := .run (.hcmd 0x0800000000000001) 9, handles := true, connected := true, mode := .tx } }
    := by decide

theorem test_witness_StepKeepsTokensAndEcho : TokensOk busy ∧ EchoOk busy := by decide

theorem test_witness_StepKeepsWaitingTxDoneLive : WaitEndsOk busy ∧ StorageOk busy ∧ TokensOk busy ∧ EchoOk busy ∧
    busy.eseq.state = .waitingTxDone ∧ sessionRuns busy = true :=
  ⟨by decide, test_witness_StepKeepsStorage, by decide, by decide, rfl, rfl⟩

theorem test_witness_StepKeepsShadowLegal : ShadowOk busy := by decide

/-- A state whose step goes on, and one whose step is the stop. -/
theorem test_witness_StepNeverStopsOnItsOwn : pcOk busy = true ∧
    (let s : State :=
      { aliasing with
        eng := { aliasing.eng with pc := .run (.hcmd 0x1200000000000000) 7 }
        env := { aliasing.env with turns := [.eng 4] } }
     pcOk s = true ∧ s.ectl.session + 1 = s.eseq.seen) := by decide

/-- The default parameters, and the smallest legal PREFIX_MAX. -/
theorem test_witness_BlockResetLeavesTheResetState : busy.cfg.legal = true ∧
    ({ Config.Params.default with prefixMax := 5 } : Config.Params).legal = true := by decide

end Sys2Proof.Tests
end

/-! ### Programs: the list of atomic actions behind each command and message -/

section

namespace Sys2Proof.Machine

open Sys2Proof.Safety

/-- The numbered actions of a command's rule, under the parameters `c`. -/
def instrProg (c : Config.Params) : Instr → List Act
  | .begin f => beginStart f ++ beginConfig f ++ [replyWith 0x01 .ok 0 (beginDone f)]
  | .setFrequency f =>
    setterProg 0x02 (operandsLegal c (.setFrequency f)) (opModeAct .standby :: frfActs f)
      (fun r => { r with freq := BitVec.ofNat 32 f })
  | .setSf sf => setterProg 0x03 (operandsLegal c (.setSf sf)) (sfBody sf) (shadowSf sf)
  | .setBw k => setterProg 0x04 (operandsLegal c (.setBw k)) (bwBody k) (fun r => { r with bw := BitVec.ofNat 4 k })
  | .setCr k => setterProg 0x05 (operandsLegal c (.setCr k)) (crBody k) (fun r => { r with cr := BitVec.ofNat 4 k })
  | .setTxPower p =>
    setterProg 0x06 (operandsLegal c (.setTxPower p)) (powerBody p) (fun r => { r with txPwr := BitVec.ofNat 5 p })
  | .setSyncWord w =>
    setterProg 0x07 (operandsLegal c (.setSyncWord w)) (syncBody w) (fun r => { r with sync := BitVec.ofNat 8 w })
  | .transmit n => transmitProg n
  | .receiveMode t =>
    [needConnected 0x09, need (fun s => operandsLegal s.cfg (.receiveMode t)) 0x09 .invalidParam,
     opModeAct .standby, writeAct (fun r => r.fifoAddrPtr) (fun _ => 0x00),
     writeAct (fun r => r.irqFlags) (fun _ => 0xFF), writeAct (fun r => r.dioMapping1) (fun _ => 0x00),
     armAct t, replyWith 0x09 .ok 0 id]
  | .standby => [needConnected 0x0A, opModeAct .standby, replyWith 0x0A .ok 0 id]
  | .sleep => [needConnected 0x0B, opModeAct .sleep, replyWith 0x0B .ok 0 id]
  | .hardwareReset =>
    [needConnected 0x0C, setAct (drive .reset false)] ++ waitActs 10 ++
      [setAct (drive .reset true)] ++ waitActs 10 ++ [replyWith 0x0C .ok 0 resetDone]
  | .disconnect => [replyWith 0x0D .ok 0 disconnected]
  | .getRssi =>
    [needConnected 0x0E, readAct (fun r => r.rssi) setV, fun t => replyWith 0x0E .ok (rssiDbm t.work.v) id t]
  | .getVersion =>
    [needConnected 0x0F, readAct (fun r => r.version) setV,
     fun t => replyWith 0x0F .ok (t.work.v.setWidth 16) id t]
  | .subscribe id' => [replyWith 0x10 .ok 0 (setSub id' true)]
  | .unsubscribe id' => [replyWith 0x11 .ok 0 (setSub id' false)]
  | .echoStart lp ld delay plen => echoStartProg lp ld delay plen
  | .echoStop => [replyWith 0x13 .ok 0 echoStopped]

/-- The numbered actions of a message, under the parameters `c` (R83, R93, R115). -/
def msgProg (c : Config.Params) : Msg → List Act
  | .hcmd w =>
    match decode w with
    | .ok i => instrProg c i
    | .error (.reservedOpcode op) => [replyWith op .invalidParam 0 id]
  | .ecall .receiveMode arg _ => instrProg c (.receiveMode arg.toNat)
  | .ecall .transmit arg _ => instrProg c (.transmit arg.toNat)
  | .edge => dispatchProg
  | .rxtmo => [rxTimeoutAct]

/-- Executing a command is running its program. -/
theorem exec_eq_runMessage (i : Instr) (s : State) :
    exec i s = runMessage (some i.opcode) (instrProg s.cfg i) s := by
  cases i <;> rfl

/-- The command a word decodes to has the word's OP (R82). -/
theorem opcode_of_decode {w : CmdWord} {i : Instr} (h : decode w = .ok i) : i.opcode = opField w := by
  unfold decode at h
  split at h <;> cases h
  all_goals
    rename_i hop
    exact BitVec.eq_of_toNat_eq hop.symm

/-- A word that is no command is rejected for its own OP (R83). -/
theorem reserved_of_decode {w : CmdWord} {op : Byte} (h : decode w = .error (.reservedOpcode op)) :
    op = opField w := by
  unfold decode at h
  split at h <;> cases h
  rfl

/-- The engine's turn on a message runs the message's program. -/
theorem runMsg_eq_runMessage (m : Msg) (s : State) :
    runMsg m s = runMessage (msgOpcode m) (msgProg s.cfg m) s := by
  rcases m with w | ⟨_ | _, arg, sess⟩ | _ | _
  case hcmd =>
    rcases hd : decode w with ⟨op⟩ | i
    · simp only [runMsg, msgProg, msgOpcode, hd, reservedCommand, reserved_of_decode hd]
    · simp only [runMsg, msgProg, msgOpcode, hd, exec_eq_runMessage, opcode_of_decode hd]
  all_goals rfl

end Sys2Proof.Machine

end

/-! ### Regular actions: what every action leaves alone, and that none looks at x[PC] or the quantum -/

section

namespace Sys2Proof.Machine

open Sys2Proof.Safety

/-- The state with another x[PC] and another quantum: what two ways to divide a run into turns differ in. -/
def relabel (p : Pc) (q : Nat) (s : State) : State := setPc p (withQuantum q s)

/-- A value that depends neither on x[PC] nor on the quantum. -/
def Blind {α : Type} (v : State → α) : Prop := ∀ p q s, v (relabel p q s) = v s

theorem blind_iff {α : Type} {v : State → α} : Blind v ↔ ∀ p q s, v (relabel p q s) = v s := .rfl

@[simp] theorem relabel_cfg (p : Pc) (q : Nat) (s : State) : (relabel p q s).cfg = s.cfg := rfl
@[simp] theorem relabel_work (p : Pc) (q : Nat) (s : State) : (relabel p q s).work = s.work := rfl
@[simp] theorem relabel_ectl (p : Pc) (q : Nat) (s : State) : (relabel p q s).ectl = s.ectl := rfl
@[simp] theorem relabel_connected (p : Pc) (q : Nat) (s : State) :
    (relabel p q s).eng.connected = s.eng.connected := rfl

/-- What no action of any message changes (the fields of `Obligations.CommandFrame`), from `s` to `t`. An update that
leaves a field as it is needs no proof for it. -/
structure Framed (s t : State) : Prop where
  cfg : t.cfg = s.cfg := by rfl
  txbuf : t.txbuf = s.txbuf := by rfl
  txEpoch : t.env.txEpoch = s.env.txEpoch := by rfl
  inq : t.inq = s.inq := by rfl
  evtCur : t.evtCur = s.evtCur := by rfl
  origin : t.eng.origin = s.eng.origin := by rfl
  eseq : t.eseq = s.eseq := by rfl
  sync0 : t.dio.sync0 = s.dio.sync0 := by rfl
  sync1 : t.dio.sync1 = s.dio.sync1 := by rfl
  edgeQueued : t.dio.queued = s.dio.queued := by rfl
  rxtmoQueued : t.rxs.queued = s.rxs.queued := by rfl
  host : ∃ a b, t.host = { s.host with evtOvf := a, echoEvtOvf := b } := by exact ⟨_, _, rfl⟩
  bus : ∃ l, t.bus = s.bus ++ l := by exact ⟨[], (List.append_nil _).symm⟩
  rspq : s.eng.origin ≠ .host → t.rspq = s.rspq := by exact fun _ => rfl
  rpl : s.eng.origin = .host → t.rpl = s.rpl := by exact fun _ => rfl

theorem Framed.refl (s : State) : Framed s s := {}

theorem Framed.trans {s t u : State} (h : Framed s t) (h' : Framed t u) : Framed s u where
  cfg := h'.cfg.trans h.cfg
  txbuf := h'.txbuf.trans h.txbuf
  txEpoch := h'.txEpoch.trans h.txEpoch
  inq := h'.inq.trans h.inq
  evtCur := h'.evtCur.trans h.evtCur
  origin := h'.origin.trans h.origin
  eseq := h'.eseq.trans h.eseq
  sync0 := h'.sync0.trans h.sync0
  sync1 := h'.sync1.trans h.sync1
  edgeQueued := h'.edgeQueued.trans h.edgeQueued
  rxtmoQueued := h'.rxtmoQueued.trans h.rxtmoQueued
  host := by
    obtain ⟨_, _, hs⟩ := h.host
    obtain ⟨_, _, ht⟩ := h'.host
    exact ⟨_, _, by rw [ht, hs]⟩
  bus := by
    obtain ⟨l, hs⟩ := h.bus
    obtain ⟨l', ht⟩ := h'.bus
    exact ⟨l ++ l', by rw [ht, hs, List.append_assoc]⟩
  rspq := fun ho => (h'.rspq (by rwa [h.origin])).trans (h.rspq ho)
  rpl := fun ho => (h'.rpl (by rwa [h.origin])).trans (h.rpl ho)

/-! #### The frame of the shared operations -/

theorem framed_setPc (p : Pc) (s : State) : Framed s (setPc p s) := {}

theorem framed_afterBus (s : State) (l : List BusEvent) : Framed s (afterBus s l) where
  bus := ⟨l, rfl⟩

theorem framed_drive (p : Pin) (b : Bool) (s : State) : Framed s (drive p b s) := by
  cases p <;> exact { bus := ⟨_, rfl⟩ }

theorem framed_release (p : Pin) (s : State) : Framed s (release p s) := by
  cases p <;> exact { bus := ⟨_, rfl⟩ }

theorem framed_openHandles (s : State) : Framed s (openHandles s) :=
  ((framed_drive .sclk false s).trans ((framed_drive .mosi false _).trans
    ((framed_drive .reset false _).trans (framed_drive .cs true _)))).trans {}

theorem framed_closeHandles (s : State) : Framed s (closeHandles s) :=
  Framed.trans (t := { s with eng := { s.eng with handles := false } }) {}
    ((framed_release .cs _).trans ((framed_release .reset _).trans
      ((framed_release .mosi _).trans (framed_release .sclk _))))

theorem framed_closeIfOpen (s : State) : Framed s (closeIfOpen s) := by
  unfold closeIfOpen
  split
  · exact framed_closeHandles s
  · exact .refl s

theorem framed_setMode (m : Mode) (s : State) : Framed s (setMode m s) where
  rxtmoQueued := by cases m <;> rfl

theorem framed_postEvt (e : Event) (s : State) : Framed s (postEvt e s) := by
  rcases postEvt_cases e s with ⟨-, h⟩ | ⟨-, -, h⟩ | ⟨-, -, h⟩ <;> rw [h] <;> exact {}

theorem framed_postEq (e : Event) (s : State) : Framed s (postEq e s) := by
  rcases postEq_cases e s with ⟨-, -, h⟩ | ⟨-, -, h⟩ | ⟨-, -, h⟩ | ⟨-, -, h⟩ <;> rw [h] <;> exact {}

theorem framed_emit (e : Event) (s : State) : Framed s (emit e s) := by
  rw [emit_spec]
  split
  · exact (framed_postEvt e s).trans (framed_postEq e _)
  · exact framed_postEvt e s

theorem framed_respond (op : Byte) (st : Status) (v : Half) (s : State) : Framed s (respond op st v s) := by
  rcases ho : s.eng.origin with _ | sess
  · rw [respond_toHost op st v s ho]
    exact { rspq := fun h => absurd ho h }
  · rw [respond_toCall op st v s sess ho]
    exact { rpl := fun h => by simp [ho] at h }

/-! #### Regular updates -/

/-- An update that leaves the frame alone and neither reads nor writes x[PC] and the quantum. -/
structure RegularUpd (f : State → State) : Prop where
  frame : ∀ s, Framed s (f s)
  blind : ∀ p q s, f (relabel p q s) = relabel p q (f s) := by intros; rfl

theorem RegularUpd.comp {f g : State → State} (hf : RegularUpd f) (hg : RegularUpd g) :
    RegularUpd (fun s => f (g s)) where
  frame s := (hg.frame s).trans (hf.frame _)
  blind p q s := by rw [hg.blind, hf.blind]

/-- A regular update commutes with moving x[PC]. -/
theorem RegularUpd.comm_setPc {f : State → State} (hf : RegularUpd f) (p : Pc) (s : State) :
    f (setPc p s) = setPc p (f s) := by
  have hq : (f s).env.quantum = s.env.quantum :=
    congrArg (fun t => t.env.quantum) (hf.blind s.eng.pc s.env.quantum s)
  calc f (setPc p s) = relabel p s.env.quantum (f s) := hf.blind p s.env.quantum s
    _ = setPc p (f s) := by rw [← hq]; rfl

@[simp] theorem regularUpd_id : RegularUpd id where
  frame := .refl

@[simp] theorem regularUpd_setV (v : Byte) : RegularUpd (setV v) where
  frame _ := {}

@[simp] theorem regularUpd_setI (i : BitVec 9) : RegularUpd (setI i) where
  frame _ := {}

@[simp] theorem regularUpd_setIrq (v : Byte) : RegularUpd (setIrq v) where
  frame _ := {}

@[simp] theorem regularUpd_loadWait (ms : Nat) : RegularUpd (loadWait ms) where
  frame _ := {}

@[simp] theorem regularUpd_drive (p : Pin) (b : Bool) : RegularUpd (drive p b) where
  frame := framed_drive p b
  blind _ _ _ := by cases p <;> rfl

@[simp] theorem regularUpd_openHandles : RegularUpd openHandles where
  frame := framed_openHandles

@[simp] theorem regularUpd_closeIfOpen : RegularUpd closeIfOpen where
  frame := framed_closeIfOpen
  blind p q _ := by simp only [closeIfOpen, apply_ite (relabel p q)]; rfl

@[simp] theorem regularUpd_setMode (m : Mode) : RegularUpd (setMode m) where
  frame := framed_setMode m

@[simp] theorem regularUpd_loadRxSingle (t : Nat) : RegularUpd (loadRxSingle t) where
  frame _ := {}

@[simp] theorem regularUpd_enterTxWait : RegularUpd enterTxWait where
  frame _ := {}

@[simp] theorem regularUpd_leaveTxWait : RegularUpd leaveTxWait where
  frame _ := {}

@[simp] theorem regularUpd_beginDone (f : Nat) : RegularUpd (beginDone f) where
  frame _ := {}

@[simp] theorem regularUpd_shadow (f : RadioCfg → RadioCfg) :
    RegularUpd (fun s => { s with radio := f s.radio }) where
  frame _ := {}

@[simp] theorem regularUpd_resetDone : RegularUpd resetDone where
  frame _ := {}

@[simp] theorem regularUpd_setSub (id' : Nat) (on : Bool) : RegularUpd (setSub id' on) where
  frame _ := {}

@[simp] theorem regularUpd_echoStarted : RegularUpd echoStarted where
  frame _ := {}

@[simp] theorem regularUpd_loadPlen (lp : Bool) (plen : Nat) : RegularUpd (loadPlen lp plen) where
  frame _ := by cases lp <;> exact {}
  blind _ _ _ := by cases lp <;> rfl

@[simp] theorem regularUpd_loadDelay (ld : Bool) (delay : Nat) : RegularUpd (loadDelay ld delay) where
  frame _ := by cases ld <;> exact {}
  blind _ _ _ := by cases ld <;> rfl

@[simp] theorem regularUpd_echoStopped : RegularUpd echoStopped where
  frame s := by
    unfold echoStopped
    split <;> exact {}
  blind p q _ := by simp only [echoStopped, apply_ite (relabel p q)]; rfl

/-- What DISCONNECT does after the handles are closed. -/
@[simp] theorem regularUpd_disconnected : RegularUpd disconnected :=
  have hlast : RegularUpd fun s =>
      { cancelRxSingle s with eng := { s.eng with connected := false, mode := .unknown } } :=
    { frame := fun _ => {} }
  hlast.comp regularUpd_closeIfOpen

/-- A transfer's entry in the bus history, with its address and value. -/
theorem regularUpd_afterBus {l : State → List BusEvent} (hl : Blind l) :
    RegularUpd (fun s => afterBus s (l s)) where
  frame s := framed_afterBus s (l s)
  blind p q s := by rw [hl]; rfl

theorem regularUpd_postEvt (e : Event) : RegularUpd (postEvt e) where
  frame := framed_postEvt e
  blind p q s := by
    simp only [postEvt, apply_ite (relabel p q)]
    rfl

theorem regularUpd_postEq (e : Event) : RegularUpd (postEq e) where
  frame := framed_postEq e
  blind p q s := by
    rcases hk : e.kind <;> simp only [postEq, hk, apply_ite (relabel p q)] <;> rfl

/-- An event that is emitted, made from what the state holds. -/
theorem regularUpd_emit {e : State → Event} (he : Blind e) : RegularUpd (fun s => emit (e s) s) where
  frame s := framed_emit (e s) s
  blind p q s := by
    simp only [emit_spec, he p q s, apply_ite (relabel p q), (regularUpd_postEvt _).blind,
      (regularUpd_postEq _).blind]
    rfl

/-- A reply, with the VALUE made from what the state holds. -/
theorem regularUpd_respond {v : State → Half} (op : Byte) (st : Status) (hv : Blind v) :
    RegularUpd (fun s => respond op st (v s) s) where
  frame s := framed_respond op st (v s) s
  blind p q s := by
    have horigin : (relabel p q s).eng.origin = s.eng.origin := rfl
    rw [hv]
    rcases ho : s.eng.origin with _ | sess
    · rw [respond_toHost _ _ _ s ho, respond_toHost _ _ _ _ (horigin.trans ho)]
      rfl
    · rw [respond_toCall _ _ _ s sess ho, respond_toCall _ _ _ _ sess (horigin.trans ho)]
      rfl

/-! #### IoError -/

/-- What IoError does to the link and the TX state, but for x[PC] (R226). -/
def dropLink (s : State) : State :=
  let s1 := cancelRxSingle (closeIfOpen s)
  { s1 with
    eng := { s1.eng with connected := false, mode := .unknown }
    tx := { s1.tx with pending := false } }

/-- The IoError step but for x[PC]: the link dropped, and for a command its response and the TX event (R226). -/
def ioErrorBody (op : Option Byte) (s : State) : State :=
  match op with
  | none => dropLink s
  | some o =>
    if s.tx.pending then emit (txEvent .txError .ioError (fromEcho s)) (respond o .ioError 0 (dropLink s))
    else respond o .ioError 0 (dropLink s)

theorem regularUpd_dropLink : RegularUpd dropLink :=
  have hlast : RegularUpd fun s =>
      { cancelRxSingle s with
        eng := { s.eng with connected := false, mode := .unknown }
        tx := { s.tx with pending := false } } :=
    { frame := fun _ => {} }
  hlast.comp regularUpd_closeIfOpen

theorem regularUpd_respondIoError (o : Byte) : RegularUpd fun s => respond o .ioError 0 (dropLink s) :=
  (regularUpd_respond o .ioError (v := fun _ => 0) fun _ _ _ => rfl).comp regularUpd_dropLink

theorem regularUpd_ioErrorBody (op : Option Byte) : RegularUpd (ioErrorBody op) := by
  rcases op with _ | o
  · exact regularUpd_dropLink
  · have hr := regularUpd_respondIoError o
    have hevent (e : Event) := (regularUpd_emit (e := fun _ => e) fun _ _ _ => rfl).comp hr
    refine ⟨fun s => ?_, fun p q s => ?_⟩
    · simp only [ioErrorBody]
      split
      · exact (hevent _).frame s
      · exact hr.frame s
    · simp only [ioErrorBody, apply_ite (relabel p q), ← hr.blind, ← (hevent _).blind]
      rfl

/-- IoError is its body with x[PC] at IDLE. -/
theorem ioErrorEffect_eq (op : Option Byte) (s : State) : ioErrorEffect op s = setPc .idle (ioErrorBody op s) := by
  rcases op with _ | o
  · rfl
  · have hrespond := (regularUpd_respond o .ioError (v := fun _ => 0) fun _ _ _ => rfl).comm_setPc .idle (dropLink s)
    have hemit (e : Event) := (regularUpd_emit (e := fun _ => e) fun _ _ _ => rfl).comm_setPc .idle
    simp only [ioErrorBody, apply_ite (setPc .idle), ← hemit, ← hrespond]
    rfl

theorem framed_ioErrorStep (op : Option Byte) (m : Msg) (s : State) : Framed s (ioErrorStep op m s) := by
  rcases ioErrorStep_cases op m s with ⟨-, h⟩ | ⟨-, h⟩ <;> rw [h]
  · rw [ioErrorEffect_eq]
    exact ((regularUpd_ioErrorBody op).frame s).trans (framed_setPc _ _)
  · exact framed_setPc _ s

/-- The IoError step does not depend on x[PC], and keeps the quantum. -/
theorem ioErrorStep_relabel (op : Option Byte) (m : Msg) (p : Pc) (q : Nat) (s : State) :
    ioErrorStep op m (relabel p q s) = withQuantum q (ioErrorStep op m s) := by
  have hready : ioErrorReady op (relabel p q s) = ioErrorReady op s := rfl
  simp only [ioErrorStep, hready, ioErrorEffect_eq, (regularUpd_ioErrorBody op).blind, apply_ite (withQuantum q)]
  rfl

/-! #### Regular actions -/

/-- A property of the state an action leaves, if it leaves one. -/
def Flow.All (P : State → Prop) : Flow → Prop
  | .step s => P s
  | .goto _ s => P s
  | .hold => True
  | .done s => P s
  | .ioErr s => P s
  | .fault _ => True

theorem Flow.All.mono {P Q : State → Prop} {f : Flow} (h : f.All P) (hPQ : ∀ s, P s → Q s) : f.All Q := by
  cases f
  case hold | fault => trivial
  all_goals exact hPQ _ h

/-- The outcome of an action with its state changed. -/
def Flow.map (f : State → State) : Flow → Flow
  | .step s => .step (f s)
  | .goto k s => .goto k (f s)
  | .hold => .hold
  | .done s => .done (f s)
  | .ioErr s => .ioErr (f s)
  | .fault r => .fault r

/-- An action that leaves the frame alone and neither reads nor writes x[PC] and the quantum. -/
structure Regular (a : Act) : Prop where
  frame : ∀ s, (a s).All (Framed s)
  blind : ∀ p q s, a (relabel p q s) = (a s).map (relabel p q)

theorem regular_step {f : State → State} (hf : RegularUpd f) : Regular (fun s => .step (f s)) where
  frame := hf.frame
  blind p q s := by rw [hf.blind]; rfl

theorem regular_goto {f : State → State} (k : Nat) (hf : RegularUpd f) : Regular (fun s => .goto k (f s)) where
  frame := hf.frame
  blind p q s := by rw [hf.blind]; rfl

theorem regular_done {f : State → State} (hf : RegularUpd f) : Regular (fun s => .done (f s)) where
  frame := hf.frame
  blind p q s := by rw [hf.blind]; rfl

theorem regular_ioErr {f : State → State} (hf : RegularUpd f) : Regular (fun s => .ioErr (f s)) where
  frame := hf.frame
  blind p q s := by rw [hf.blind]; rfl

theorem regular_hold : Regular (fun _ => .hold) where
  frame _ := trivial
  blind _ _ _ := rfl

theorem regular_fault (r : Fault) : Regular (fun _ => .fault r) where
  frame _ := trivial
  blind _ _ _ := rfl

/-- A choice between two regular actions by what neither x[PC] nor the quantum decides. -/
theorem regular_ite {c : State → Prop} {inst : DecidablePred c} {a b : Act} (hc : Blind c) (ha : Regular a)
    (hb : Regular b) : Regular (fun s => if c s then a s else b s) where
  frame s := by
    split
    · exact ha.frame s
    · exact hb.frame s
  blind p q s := by
    simp only [hc p q s, ha.blind, hb.blind]
    exact (apply_ite (Flow.map (relabel p q)) _ _ _).symm

/-- A reply with its updates and a VALUE made from what the state holds. -/
theorem regular_reply {upd : State → State} {v : State → Half} (op : Byte) (st : Status) (hv : Blind v)
    (hu : RegularUpd upd) : Regular (fun s => replyWith op st (v s) upd s) :=
  regular_ite (fun _ _ _ => rfl) (regular_done
    { frame := fun s => (hu.frame s).trans (framed_respond op st (v s) (upd s))
      blind := fun p q s => by
        rw [hv, hu.blind]
        exact (regularUpd_respond op st (v := fun _ => v s) fun _ _ _ => rfl).blind p q (upd s) }) regular_hold

/-! #### The actions of the commands and of the tokens -/

@[simp] theorem regular_replyWith {upd : State → State} (op : Byte) (st : Status) (v : Half) (hu : RegularUpd upd) :
    Regular (replyWith op st v upd) :=
  regular_reply (v := fun _ => v) op st (fun _ _ _ => rfl) hu

@[simp] theorem regular_need {ok : State → Bool} (op : Byte) (st : Status) (hok : Blind ok) :
    Regular (need ok op st) :=
  regular_ite (fun p q s => by rw [hok]) (regular_step regularUpd_id) (regular_replyWith op st 0 regularUpd_id)

@[simp] theorem regular_needConnected (op : Byte) : Regular (needConnected op) :=
  regular_need op .notConnected fun _ _ _ => rfl

theorem blind_spiErrNow : Blind fun s => spiErrNow s = true := fun _ _ _ => rfl

theorem regularUpd_memWrite {a : State → ChipAddr} {d : State → Byte} (ha : Blind a) (hd : Blind d) :
    RegularUpd (fun s => (memWrite (a s) (d s) s).2) :=
  regularUpd_afterBus (l := fun s => [.write (a s) (d s)]) fun p q s => by simp only [ha p q s, hd p q s]

theorem regularUpd_memRead {a : State → ChipAddr} (ha : Blind a) : RegularUpd (fun s => (memRead (a s) s).2.2) :=
  regularUpd_afterBus (l := fun s => [.read (a s) (chipAnswer s)]) fun p q s => by simp only [ha p q s]; rfl

/-- A transfer that ends the message where it fails, and else goes on with a regular action's flow. -/
theorem regular_transfer {f : State → State} {a : Act} (hf : RegularUpd f) (ha : Regular a) :
    Regular (fun s => if spiErrNow s then .ioErr (f s) else a s) :=
  regular_ite blind_spiErrNow (regular_ioErr hf) ha

@[simp] theorem regular_writeAct {reg : Config.RegMap → ChipAddr} {val : State → Byte} {upd : State → State}
    (hv : Blind val) (hu : RegularUpd upd) : Regular (writeAct reg val upd) :=
  have hw := regularUpd_memWrite (a := fun s => reg s.cfg.regmap) (fun _ _ _ => rfl) hv
  regular_transfer hw (regular_step (hu.comp hw))

@[simp] theorem regular_readAct {reg : Config.RegMap → ChipAddr} {store : Byte → State → State}
    (hs : ∀ v, RegularUpd (store v)) : Regular (readAct reg store) :=
  have hr := regularUpd_memRead (a := fun s => reg s.cfg.regmap) fun _ _ _ => rfl
  regular_transfer hr (regular_step
    { frame := fun s => (hr.frame s).trans ((hs _).frame _)
      blind := fun p q s => by rw [hr.blind, (hs _).blind]; rfl })

@[simp] theorem regular_opModeAct {upd : State → State} (m : Mode) (hu : RegularUpd upd) :
    Regular (opModeAct m upd) :=
  regular_writeAct (fun _ _ _ => rfl) (hu.comp (regularUpd_setMode m))

@[simp] theorem regular_setAct {f : State → State} (hf : RegularUpd f) : Regular (setAct f) := regular_step hf

@[simp] theorem regular_holdAct : Regular holdAct :=
  regular_ite (fun _ _ _ => rfl) (regular_step regularUpd_id) regular_hold

@[simp] theorem regular_versionAct : Regular versionAct :=
  have hclose : RegularUpd fun t =>
      { closeHandles t with eng := { (closeHandles t).eng with mode := .unknown } } :=
    { frame := fun t => (framed_closeHandles t).trans {} }
  regular_ite (fun _ _ _ => rfl) (regular_step regularUpd_id)
    (regular_reply (v := fun s => s.work.v.setWidth 16) 0x01 .invalidChip (fun _ _ _ => rfl) hclose)

@[simp] theorem regular_armAct (t : Nat) : Regular (armAct t) := by
  unfold armAct
  split <;> simp

@[simp] theorem regular_getRssiReply (op : Byte) : Regular fun t => replyWith op .ok (rssiDbm t.work.v) id t :=
  regular_reply (v := fun s => rssiDbm s.work.v) op .ok (fun _ _ _ => rfl) regularUpd_id

@[simp] theorem regular_getVersionReply (op : Byte) :
    Regular fun t => replyWith op .ok (t.work.v.setWidth 16) id t :=
  regular_reply (v := fun s => s.work.v.setWidth 16) op .ok (fun _ _ _ => rfl) regularUpd_id

@[simp] theorem regular_fifoAct (n : Nat) : Regular (fifoAct n) :=
  have hw := regularUpd_memWrite (a := fun s => s.cfg.regmap.fifo) (d := fun s => payloadByte s s.work.i.toNat)
    (fun _ _ _ => rfl) (fun _ _ _ => rfl)
  have hnext : RegularUpd fun s => setI (s.work.i + 1)
      (memWrite s.cfg.regmap.fifo (payloadByte s s.work.i.toNat) s).2 :=
    { frame := fun s => (hw.frame s).trans ((regularUpd_setI _).frame _) }
  regular_transfer hw (regular_ite (fun _ _ _ => rfl) (regular_goto 5 hnext) (regular_step hnext))

@[simp] theorem regular_txPollAct : Regular txPollAct :=
  have hclear : RegularUpd fun s => { s with tx := { s.tx with pollReq := false, edge := false } } :=
    { frame := fun _ => {} }
  have hr := (regularUpd_memRead (a := fun s => s.cfg.regmap.irqFlags) fun _ _ _ => rfl).comp hclear
  have hirq : RegularUpd fun s =>
      setIrq (chipAnswer s)
        (memRead s.cfg.regmap.irqFlags { s with tx := { s.tx with pollReq := false, edge := false } }).2.2 :=
    { frame := fun s => (hr.frame s).trans ((regularUpd_setIrq _).frame _) }
  regular_ite (fun _ _ _ => rfl)
    (regular_transfer hr (regular_ite (fun _ _ _ => rfl) (regular_goto 10 hirq)
      (regular_ite (fun _ _ _ => rfl) (regular_goto 13 hirq) (regular_goto 9 hirq))))
    regular_hold

@[simp] theorem regular_txReplyAct (st : Status) (k : EventKind) : Regular (txReplyAct st k) :=
  regular_replyWith 0x08 st 0 (regularUpd_emit (e := fun s => txEvent k st (fromEcho s)) fun _ _ _ => rfl)

@[simp] theorem regular_prefixStartAct (lp : Bool) (plen : Nat) : Regular (prefixStartAct lp plen) :=
  regular_ite (fun _ _ _ => rfl) (regular_step (regularUpd_setI 0)) (regular_goto 5 regularUpd_id)

@[simp] theorem regular_prefixCopyAct (plen : Nat) : Regular (prefixCopyAct plen) :=
  have hcopy : RegularUpd fun s => setI (s.work.i + 1) { s with ectl := { s.ectl with
      pfx := s.ectl.pfx.set s.work.i.toNat (txByte s s.work.i.toNat) } } :=
    { frame := fun _ => {} }
  regular_ite (fun _ _ _ => rfl) (regular_goto 4 hcopy) (regular_step hcopy)

@[simp] theorem regular_echoStartAct : Regular echoStartAct :=
  regular_ite (fun _ _ _ => rfl) (regular_fault _) (regular_replyWith 0x12 .ok 0 regularUpd_echoStarted)

@[simp] theorem regular_edgeConnectedAct : Regular edgeConnectedAct :=
  regular_ite (fun _ _ _ => rfl) (regular_step regularUpd_id) (regular_done regularUpd_id)

@[simp] theorem regular_edgeBranchAct : Regular edgeBranchAct :=
  regular_ite (fun _ _ _ => rfl)
    (regular_ite (fun _ _ _ => rfl) (regular_goto 4 regularUpd_id) (regular_goto 5 regularUpd_id))
    (regular_goto 15 regularUpd_id)

@[simp] theorem regular_crcDropAct : Regular crcDropAct :=
  have hw := regularUpd_memWrite (a := fun s => s.cfg.regmap.irqFlags) (d := fun _ => irqRxDone ||| irqCrcErr)
    (fun _ _ _ => rfl) (fun _ _ _ => rfl)
  regular_transfer hw (regular_goto 14 hw)

@[simp] theorem regular_frameLengthAct : Regular frameLengthAct :=
  regular_ite (fun _ _ _ => rfl) (regular_goto 13 regularUpd_id) (regular_step (regularUpd_setI 0))

@[simp] theorem regular_rxFifoAct : Regular rxFifoAct :=
  have hr := regularUpd_memRead (a := fun s => s.cfg.regmap.fifo) fun _ _ _ => rfl
  have hstore : RegularUpd fun s => setI (s.work.i + 1)
      (let t := (memRead s.cfg.regmap.fifo s).2.2
       { t with work := { t.work with rxb := t.work.rxb.set s.work.i.toNat (chipAnswer s) } }) :=
    { frame := fun s => (hr.frame s).trans {} }
  regular_transfer hr (regular_ite (fun _ _ _ => rfl) (regular_goto 9 hstore) (regular_step hstore))

/-- A Standby write that ends the message (R144, R176), after an update. -/
theorem regular_standbyDone {f : State → State} (hf : RegularUpd f) :
    Regular fun s =>
      if spiErrNow s then .ioErr (memWrite s.cfg.regmap.opMode (opModeByte .standby) (f s)).2
      else .done (setMode .standby (memWrite s.cfg.regmap.opMode (opModeByte .standby) (f s)).2) :=
  have hw : RegularUpd fun s => (memWrite s.cfg.regmap.opMode (opModeByte .standby) (f s)).2 :=
    { frame := fun s => (hf.frame s).trans (framed_afterBus _ _)
      blind := fun p q s => by rw [hf.blind]; rfl }
  regular_transfer hw (regular_done ((regularUpd_setMode .standby).comp hw))

@[simp] theorem regular_rxEndAct : Regular rxEndAct :=
  regular_ite (fun _ _ _ => rfl) (regular_standbyDone regularUpd_id) (regular_done regularUpd_id)

@[simp] theorem regular_spuriousAct : Regular spuriousAct :=
  have hw := regularUpd_memWrite (a := fun s => s.cfg.regmap.irqFlags) (d := fun s => s.work.irq)
    (fun _ _ _ => rfl) (fun _ _ _ => rfl)
  regular_ite (fun _ _ _ => rfl) (regular_done regularUpd_id) (regular_transfer hw (regular_done hw))

@[simp] theorem regular_rxTimeoutAct : Regular rxTimeoutAct :=
  have hfired : RegularUpd fun s => { s with rxs := { s.rxs with fired := false } } := { frame := fun _ => {} }
  regular_ite (fun _ _ _ => rfl) (regular_standbyDone hfired) (regular_done regularUpd_id)

/-! #### The programs of all messages -/

/-- Every action of the program is regular. -/
def RegularProg (prog : List Act) : Prop := ∀ a ∈ prog, Regular a

@[simp] theorem regularProg_nil : RegularProg [] := List.forall_mem_nil _

@[simp] theorem regularProg_cons {a : Act} {prog : List Act} :
    RegularProg (a :: prog) ↔ Regular a ∧ RegularProg prog := List.forall_mem_cons

@[simp] theorem regularProg_append {prog prog' : List Act} :
    RegularProg (prog ++ prog') ↔ RegularProg prog ∧ RegularProg prog' := List.forall_mem_append

theorem RegularProg.regular {prog : List Act} (h : RegularProg prog) {k : Nat} {a : Act}
    (ha : stepAt prog k = some a) : Regular a := by
  cases k with
  | zero => cases ha
  | succ k => exact h a (List.mem_of_getElem? ha)

@[simp] theorem regularProg_frfActs (f : Nat) : RegularProg (frfActs f) := by
  simp [frfActs, blind_iff]

@[simp] theorem regularProg_sfBody (sf : Nat) : RegularProg (sfBody sf) := by
  unfold sfBody
  split <;> simp [blind_iff]

@[simp] theorem regularProg_bwBody (k : Nat) : RegularProg (bwBody k) := by
  simp [bwBody, blind_iff]

@[simp] theorem regularProg_crBody (cr : Nat) : RegularProg (crBody cr) := by
  simp [crBody, blind_iff]

@[simp] theorem regularProg_powerBody (p : Nat) : RegularProg (powerBody p) := by
  simp [powerBody, blind_iff]

@[simp] theorem regularProg_syncBody (w : Nat) : RegularProg (syncBody w) := by
  simp [syncBody, blind_iff]

@[simp] theorem regularProg_waitActs (ms : Nat) : RegularProg (waitActs ms) := by
  simp [waitActs]

/-- A setter's program is regular where its body is. -/
@[simp] theorem regularProg_setterProg {body : List Act} (op : Byte) (legal : Bool) (shadow : RadioCfg → RadioCfg)
    (hb : RegularProg body) : RegularProg (setterProg op legal body shadow) := by
  simp [setterProg, hb, blind_iff]

theorem regularProg_begin (f : Nat) :
    RegularProg (beginStart f ++ beginConfig f ++ [replyWith 0x01 .ok 0 (beginDone f)]) := by
  simp [beginStart, beginConfig, applyDefaults, blind_iff]

theorem regularProg_transmit (n : Nat) : RegularProg (transmitProg n) := by
  simp [transmitProg, blind_iff]

theorem regularProg_echoStart (lp ld : Bool) (delay plen : Nat) : RegularProg (echoStartProg lp ld delay plen) := by
  simp [echoStartProg, blind_iff]

theorem regularProg_dispatch : RegularProg dispatchProg := by
  have hemit : RegularUpd fun s => emit (rxEvent s) s := regularUpd_emit fun _ _ _ => rfl
  have hw (f : Byte → Work → Work) (v : Byte) : RegularUpd fun s => { s with work := f v s.work } :=
    { frame := fun _ => {} }
  have ha := hw fun v w => { w with a := v }
  have hn := hw fun v w => { w with n := v }
  have hrssi := hw fun v w => { w with rssi := v }
  have hsnr := hw fun v w => { w with snr := v }
  simp [dispatchProg, blind_iff, hemit, ha, hn, hrssi, hsnr]

/-- Every command's program is regular. -/
theorem regularProg_instrProg (c : Config.Params) (i : Instr) : RegularProg (instrProg c i) := by
  cases i
  case begin f => exact regularProg_begin f
  case transmit n => exact regularProg_transmit n
  case echoStart lp ld delay plen => exact regularProg_echoStart lp ld delay plen
  all_goals simp [instrProg, blind_iff]

/-- Every message's program is regular. -/
theorem regularProg_msgProg (c : Config.Params) (m : Msg) : RegularProg (msgProg c m) := by
  rcases m with w | ⟨_ | _, arg, sess⟩ | _ | _
  case hcmd =>
    simp only [msgProg]
    split
    · exact regularProg_instrProg c _
    · simp
  case ecall.receiveMode => exact regularProg_instrProg c (.receiveMode arg.toNat)
  case ecall.transmit => exact regularProg_instrProg c (.transmit arg.toNat)
  case edge => exact regularProg_dispatch
  case rxtmo => simp [msgProg]

end Sys2Proof.Machine

end

/-! ### The engine's run: its frame, and its division into turns -/

section

namespace Sys2Proof.Machine

open Sys2Proof.Safety

/-! #### The frame of a run -/

/-- A run of a regular program leaves the frame alone. -/
theorem runActs_framed {op : Option Byte} {prog : List Act} {m : Msg} {n k : Nat} {s t : State}
    (hp : RegularProg prog) (h : runActs op prog m n k s = .next t) : Framed s t := by
  have hact {j : Nat} {a : Act} {u : State} {f : Flow} (ha : stepAt prog j = some a) (hu : Framed s u)
      (hf : a u = f) : f.All (Framed s) :=
    hf ▸ ((hp.regular ha).frame u).mono fun _ => hu.trans
  refine runActs_induct (fun _ u => Framed s u) (Framed s) ?_ ?_ ?_ ?_ ?_ n k s t (.refl s) h
  · exact fun j u hu => hu.trans (framed_setPc _ u)
  · exact fun j a u u' ha hu hf => hact ha hu hf
  · exact fun j a u j' u' ha hu hf => hact ha hu hf
  · exact fun j a u u' ha hu hf => (hact ha hu hf : Framed s u').trans (framed_setPc _ u')
  · exact fun j a u u' ha hu hf => (hact ha hu hf : Framed s u').trans (framed_ioErrorStep op m u')

/-- A turn on a message being executed leaves the frame alone. -/
theorem runMessage_framed {op : Option Byte} {prog : List Act} {s t : State} (hp : RegularProg prog)
    (hbusy : s.eng.pc ≠ .idle) (h : runMessage op prog s = .next t) : Framed s t := by
  rcases runMessage_cases op prog s with ⟨hpc, -, -⟩ | ⟨m, rest, hpc, -, -⟩ | ⟨m, k, -, hr⟩ | ⟨m, -, hr⟩
  · exact absurd hpc hbusy
  · exact absurd hpc hbusy
  · exact runActs_framed hp (hr ▸ h)
  · obtain rfl := Host.Outcome.next.inj (hr.symm.trans h)
    split
    · exact .refl s
    · exact framed_ioErrorStep op m s

/-! #### Turns composed -/

/-- A run does not depend on x[PC], which it sets where it stops, and keeps the quantum. -/
theorem runActs_relabel {op : Option Byte} {prog : List Act} {m : Msg} (hp : RegularProg prog) (p : Pc) (q : Nat)
    {n k : Nat} {s t : State} (h : runActs op prog m n k s = .next t) :
    runActs op prog m n k (relabel p q s) = .next (withQuantum q t) := by
  induction n generalizing k s with
  | zero =>
    obtain rfl := Host.Outcome.next.inj h
    rfl
  | succ n ih =>
    rcases ha : stepAt prog k with _ | a
    · simp [runActs, ha] at h
    · have hblind := (hp.regular ha).blind p q s
      rcases hs : a s with s' | ⟨j, s'⟩ | _ | s' | s' | r <;> rw [hs] at hblind
      · rw [runActs_step ha hs] at h
        rw [runActs_step ha hblind, ih h]
      · rw [runActs_goto ha hs] at h
        rw [runActs_goto ha hblind, ih h]
      · rw [runActs_hold ha hs] at h
        obtain rfl := Host.Outcome.next.inj h
        exact runActs_hold ha hblind
      · rw [runActs_done ha hs] at h
        obtain rfl := Host.Outcome.next.inj h
        exact runActs_done ha hblind
      · rw [runActs_ioErr ha hs] at h
        obtain rfl := Host.Outcome.next.inj h
        rw [runActs_ioErr ha hblind, ioErrorStep_relabel]
      · simp [runActs, ha, hs] at h

/-- An IoError step that does not end the message is held (R221, log 10). -/
theorem ioErrorStep_held {op : Option Byte} {m : Msg} {s : State} (h : (ioErrorStep op m s).eng.pc ≠ .idle) :
    ioErrorStep op m s = setPc (.failed m) s := by
  rcases ioErrorStep_cases op m s with ⟨-, he⟩ | ⟨-, hheld⟩
  · rw [he, ioErrorEffect_eq] at h
    exact absurd rfl h
  · exact hheld

/-- Where a run of `n` actions leaves its message unfinished, it stands at a step from which `l` more actions lead
where a run of `n + l` leads, or it is held at the IoError step, where every longer run is held too. -/
theorem runActs_unfinished {op : Option Byte} {prog : List Act} {m : Msg} {n k : Nat} {s t : State}
    (h : runActs op prog m n k s = .next t) (ht : t.eng.pc ≠ .idle) :
    (∃ j s', t = setPc (.run m j) s' ∧ ∀ l, runActs op prog m (n + l) k s = runActs op prog m l j s') ∨
    (∃ s', t = setPc (.failed m) s' ∧ ioErrorStep op m s' = setPc (.failed m) s' ∧
      ∀ l, runActs op prog m (n + l) k s = .next t) := by
  induction n generalizing k s with
  | zero => exact .inl ⟨k, s, (Host.Outcome.next.inj h).symm, fun l => by rw [Nat.zero_add]⟩
  | succ n ih =>
    rcases ha : stepAt prog k with _ | a
    · simp [runActs, ha] at h
    · simp only [Nat.add_right_comm n 1]
      rcases hs : a s with s' | ⟨j, s'⟩ | _ | s' | s' | r
      · rw [runActs_step ha hs] at h
        simpa only [runActs_step ha hs] using ih h
      · rw [runActs_goto ha hs] at h
        simpa only [runActs_goto ha hs] using ih h
      · rw [runActs_hold ha hs] at h
        exact .inl ⟨k, s, (Host.Outcome.next.inj h).symm, fun l => by rw [runActs_hold ha hs, runActs_hold ha hs]⟩
      · rw [runActs_done ha hs] at h
        obtain rfl := Host.Outcome.next.inj h
        exact absurd rfl ht
      · rw [runActs_ioErr ha hs] at h
        obtain rfl := Host.Outcome.next.inj h
        have hheld := ioErrorStep_held ht
        exact .inr ⟨s', hheld, hheld, fun l => runActs_ioErr ha hs⟩
      · simp [runActs, ha, hs] at h

/-- A message at its failed transfer: an empty turn changes nothing, any other takes the IoError step or is held at it
(R226, log 10). -/
theorem runMessage_failed {op : Option Byte} {prog : List Act} {m : Msg} {s : State} (hpc : s.eng.pc = .failed m)
    (q : Nat) : runMessage op prog (withQuantum q s) =
      .next (withQuantum q (if q = 0 then s else ioErrorStep op m s)) := by
  have hfailed : (withQuantum q s).eng.pc = .failed m := hpc
  have hquantum : (withQuantum q s).env.quantum = q := rfl
  have hstep : ioErrorStep op m (withQuantum q s) = withQuantum q (ioErrorStep op m s) :=
    ioErrorStep_relabel op m s.eng.pc q s
  simp only [runMessage, hfailed, hquantum, hstep, apply_ite (withQuantum q), apply_ite Host.Outcome.next]

/-- A message held at its IoError step stays there, whatever the quantum (R221, R226). -/
theorem runMessage_held {op : Option Byte} {prog : List Act} {m : Msg} {s : State}
    (hheld : ioErrorStep op m s = setPc (.failed m) s) (q : Nat) :
    runMessage op prog (withQuantum q (setPc (.failed m) s)) = .next (withQuantum q (setPc (.failed m) s)) := by
  have hstay : ioErrorStep op m (setPc (.failed m) s) = setPc (.failed m) s :=
    (ioErrorStep_relabel op m (.failed m) s.env.quantum s).trans (congrArg (withQuantum s.env.quantum) hheld)
  rw [runMessage_failed (m := m) rfl, hstay, ite_self]

/-- A run that leaves its message unfinished, and a turn of `k` more, lead where a run of `n + k` leads, but for the
quantum. -/
theorem runActs_compose {op : Option Byte} {prog : List Act} {m : Msg} (hp : RegularProg prog) {n k j : Nat}
    {s t u : State} (hst : runActs op prog m n j s = .next t) (ht : t.eng.pc ≠ .idle)
    (htu : runMessage op prog (withQuantum k t) = .next u) :
    ∃ q, runActs op prog m (n + k) j s = .next (withQuantum q u) := by
  rcases runActs_unfinished hst ht with ⟨i, s', rfl, hlonger⟩ | ⟨s', rfl, hheld, hlonger⟩
  · rw [runMessage_run (m := m) (k := i) rfl] at htu
    refine ⟨s'.env.quantum, (hlonger k).trans ?_⟩
    exact runActs_relabel hp s'.eng.pc s'.env.quantum (s := withQuantum k (setPc (.run m i) s')) htu
  · rw [runMessage_held hheld] at htu
    obtain rfl := Host.Outcome.next.inj htu
    exact ⟨s'.env.quantum, hlonger k⟩

/-- The turns of a message at its failed transfer compose. -/
theorem runMessage_failed_compose {op : Option Byte} {prog : List Act} {m : Msg} {n k : Nat} {s t u : State}
    (hpc : s.eng.pc = .failed m) (hst : runMessage op prog (withQuantum n s) = .next t) (ht : t.eng.pc ≠ .idle)
    (htu : runMessage op prog (withQuantum k t) = .next u) :
    runMessage op prog (withQuantum (n + k) s) = .next (withQuantum (n + k) u) := by
  rw [runMessage_failed hpc] at hst
  obtain rfl := Host.Outcome.next.inj hst
  rcases n with _ | n
  · rw [if_pos rfl] at htu
    have hsu : runMessage op prog (withQuantum k s) = .next u := htu
    rw [runMessage_failed hpc] at hsu
    obtain rfl := Host.Outcome.next.inj hsu
    rw [Nat.zero_add]
    exact runMessage_failed hpc k
  · rw [if_neg n.succ_ne_zero] at ht htu
    have hheld := ioErrorStep_held ht
    have hstay : setPc (.failed m) s = s := by rw [← hpc]; rfl
    have hturn (q : Nat) : runMessage op prog (withQuantum q s) = .next (withQuantum q s) := by
      simpa only [hstay] using runMessage_held (prog := prog) hheld q
    rw [hheld, hstay] at htu
    obtain rfl := Host.Outcome.next.inj ((hturn k).symm.trans htu)
    exact hturn (n + 1 + k)

/-- The turns of a regular program compose. -/
theorem runMessage_compose {op : Option Byte} {prog : List Act} (hp : RegularProg prog) {n k : Nat} {s t u : State}
    (hbusy : s.eng.pc ≠ .idle) (hst : runMessage op prog (withQuantum n s) = .next t) (ht : t.eng.pc ≠ .idle)
    (htu : runMessage op prog (withQuantum k t) = .next u) :
    runMessage op prog (withQuantum (n + k) s) = .next (withQuantum (n + k) u) := by
  rcases hpc : s.eng.pc with _ | ⟨m, j⟩ | m
  · exact absurd hpc hbusy
  · rw [runMessage_run (s := withQuantum n s) hpc] at hst
    obtain ⟨q, hrun⟩ := runActs_compose hp hst ht htu
    rw [runMessage_run (s := withQuantum (n + k) s) hpc]
    exact runActs_relabel hp s.eng.pc (n + k) (s := withQuantum n s) (t := withQuantum q u) hrun
  · exact runMessage_failed_compose hpc hst ht htu

end Sys2Proof.Machine

end

/-! ### The obligations of the scope family -/

section

namespace Sys2Proof.Proofs

open Sys2Proof.Machine Sys2Proof.Safety

/-- Settles O6: the actions of a message are blind to x[PC] and the quantum, so a run taken up where it stopped goes on
as if it had not stopped. -/
theorem engineTurnsCompose : Obligations.EngineTurnsCompose := by
  intro m n k s t u hbusy hst ht htu
  have hp := regularProg_msgProg s.cfg m
  rw [runMsg_eq_runMessage] at hst htu ⊢
  have hcfg : (withQuantum k t).cfg = s.cfg :=
    (runMessage_framed (s := withQuantum n s) hp hbusy hst).cfg
  rw [hcfg] at htu
  exact runMessage_compose hp hbusy hst ht htu

/-- A byte of TXBUF is what the memory and the reset epoch make it (R38, log 6). -/
theorem txByte_congr {s t : State} (hm : t.txbuf = s.txbuf) (he : t.env.txEpoch = s.env.txEpoch) (j : Nat) :
    txByte t j = txByte s j := by
  simp only [txByte, hm, he]

/-- Settles O49: every command's program is regular, and a regular program leaves the frame alone. -/
theorem commandFrame : Obligations.CommandFrame := by
  intro i s t hbusy h
  rw [exec_eq_runMessage] at h
  have hf : Framed s t := runMessage_framed (regularProg_instrProg s.cfg i) hbusy h
  have hhost : t.host = { s.host with evtOvf := t.host.evtOvf, echoEvtOvf := t.host.echoEvtOvf } := by
    obtain ⟨_, _, hh⟩ := hf.host
    rw [hh]
  exact ⟨hf.cfg, txByte_congr hf.txbuf hf.txEpoch, hf.txbuf, hf.inq, hf.evtCur, hf.origin, hf.eseq, hf.sync0,
    hf.sync1, hf.edgeQueued, hf.rxtmoQueued, hhost, hf.bus, hf.rspq, hf.rpl⟩

/-- A step in which the engine has its turn is the engine's turn, with the turn dropped and its quantum given. -/
theorem step_of_engTurn {s : State} {n : Nat} (h : nextTurn s = .eng n) :
    step s = engineTurn (withQuantum n (dropTurn s)) := by
  simp only [step, h, runTurn, withQuantum]

/-- The message the engine executes or would take does not depend on the environment's part. -/
theorem currentMsg_turn (s : State) (n : Nat) : currentMsg (withQuantum n (dropTurn s)) = currentMsg s := by
  simp [currentMsg, withQuantum]

/-- With a message to run, the engine's turn in a step runs it. -/
theorem step_of_currentMsg {s : State} {n : Nat} {m : Msg} (h : nextTurn s = .eng n) (hm : currentMsg s = some m) :
    step s = runMsg m (withQuantum n (dropTurn s)) := by
  rw [step_of_engTurn h, engineTurn, currentMsg_turn, hm]

/-- Settles O4, by the kind of the message. -/
theorem stepRunsDecodedMessage : Obligations.StepRunsDecodedMessage := by
  intro s n h
  refine ⟨fun w i hm hd => ?_, fun w op hm hd => ?_, fun arg sess hm => step_of_currentMsg h hm,
    fun arg sess hm => step_of_currentMsg h hm, fun hm => step_of_currentMsg h hm,
    fun hm => step_of_currentMsg h hm, fun hm => ?_⟩
  · rw [step_of_currentMsg h hm]
    simp only [runMsg, hd]
  · rw [step_of_currentMsg h hm]
    simp only [runMsg, hd]
  · rw [step_of_engTurn h, engineTurn, currentMsg_turn, hm]

end Sys2Proof.Proofs

end

/-! ### Invariants of the engine's run, and of a step -/

section

namespace Sys2Proof.Machine

open Sys2Proof.Safety

/-- Where an action of message `m` at step `k` leaves the controller, x[PC] included; none where it holds or stops. -/
def Flow.exit (m : Msg) (k : Nat) : Flow → Option State
  | .step s => some (setPc (.run m (k + 1)) s)
  | .goto j s => some (setPc (.run m j) s)
  | .hold => none
  | .done s => some (setPc .idle s)
  | .ioErr s => some (setPc (.failed m) s)
  | .fault _ => none

/-- A regular action leads to the same place whatever x[PC] holds. -/
theorem Regular.exit_setPc {a : Act} (ha : Regular a) (m : Msg) (k : Nat) (p : Pc) (s : State) :
    (a (setPc p s)).exit m k = (a s).exit m k := by
  have hmove : a (setPc p s) = (a s).map (relabel p s.env.quantum) := ha.blind p s.env.quantum s
  have hsame : a s = (a s).map (relabel s.eng.pc s.env.quantum) := ha.blind s.eng.pc s.env.quantum s
  have hquantum {u : State} (hu : u = relabel s.eng.pc s.env.quantum u) (p' : Pc) :
      setPc p' (relabel p s.env.quantum u) = setPc p' u := by
    rw [hu]
    rfl
  rw [hmove]
  rcases hs : a s with u | ⟨j, u⟩ | _ | u | u | r <;> rw [hs] at hsame
  case hold | fault => rfl
  case goto =>
    injection hsame with _ hu
    exact congrArg some (hquantum hu _)
  all_goals
    injection hsame with hu
    exact congrArg some (hquantum hu _)

/-- The IoError step is the same at the failed point as where the transfer failed. -/
theorem ioErrorEffect_setPc (op : Option Byte) (p : Pc) (s : State) :
    ioErrorEffect op (setPc p s) = ioErrorEffect op s := by
  rw [ioErrorEffect_eq, ioErrorEffect_eq, (regularUpd_ioErrorBody op).comm_setPc]
  rfl

/-- A property that the IoError step keeps holds after it, taken or held. -/
theorem ioErrorStep_keeps {op : Option Byte} {m : Msg} {I : State → Prop}
    (herr : ∀ s, s.eng.pc = .failed m → ioErrorReady op s = true → I s → I (ioErrorEffect op s)) {s : State}
    (hI : I (setPc (.failed m) s)) : I (ioErrorStep op m s) := by
  rcases ioErrorStep_cases op m s with ⟨hready, he⟩ | ⟨-, he⟩ <;> rw [he]
  · rw [← ioErrorEffect_setPc op (.failed m)]
    exact herr _ rfl hready hI
  · exact hI

/-- A property that every action of a run keeps, with x[PC] where the action stands and where it leads, and that the
IoError step keeps, holds where the run stops. -/
theorem runActs_keeps {op : Option Byte} {prog : List Act} {m : Msg} {c : Config.Params} {I : State → Prop}
    (hp : RegularProg prog)
    (hact : ∀ k a s t, stepAt prog k = some a → s.cfg = c → s.eng.pc = .run m k → I s → (a s).exit m k = some t → I t)
    (herr : ∀ s, s.eng.pc = .failed m → ioErrorReady op s = true → I s → I (ioErrorEffect op s))
    {n k : Nat} {s t : State} (hc : s.cfg = c) (hI : I (setPc (.run m k) s))
    (h : runActs op prog m n k s = .next t) : I t := by
  have hexit {j : Nat} {a : Act} {u v : State} (ha : stepAt prog j = some a) (hu : u.cfg = c ∧ I (setPc (.run m j) u))
      (hv : (a u).exit m j = some v) : I v :=
    hact j a (setPc (.run m j) u) v ha hu.1 rfl hu.2 (((hp.regular ha).exit_setPc m j _ u).trans hv)
  have hcfg {j : Nat} {a : Act} {u : State} {f : Flow} (ha : stepAt prog j = some a) (hu : u.cfg = c)
      (hf : a u = f) : f.All (fun v => v.cfg = c) :=
    hf ▸ ((hp.regular ha).frame u).mono fun _ hv => hv.cfg.trans hu
  refine runActs_induct (fun j u => u.cfg = c ∧ I (setPc (.run m j) u)) I ?_ ?_ ?_ ?_ ?_ n k s t ⟨hc, hI⟩ h
  · exact fun j u hu => hu.2
  · exact fun j a u v ha hu hf => ⟨hcfg ha hu.1 hf, hexit ha hu (by rw [hf]; rfl)⟩
  · exact fun j a u i v ha hu hf => ⟨hcfg ha hu.1 hf, hexit ha hu (by rw [hf]; rfl)⟩
  · exact fun j a u v ha hu hf => hexit ha hu (by rw [hf]; rfl)
  · exact fun j a u v ha hu hf => ioErrorStep_keeps herr (hexit ha hu (by rw [hf]; rfl))

/-- A property that every action of the message being executed and the IoError step keep holds after a turn on it. -/
theorem runMessage_keeps {op : Option Byte} {prog : List Act} {m : Msg} {c : Config.Params} {I : State → Prop}
    (hp : RegularProg prog)
    (hact : ∀ k a s t, stepAt prog k = some a → s.cfg = c → s.eng.pc = .run m k → I s → (a s).exit m k = some t → I t)
    (herr : ∀ s, s.eng.pc = .failed m → ioErrorReady op s = true → I s → I (ioErrorEffect op s))
    {s t : State} (hm : runningMsg s = some m) (hc : s.cfg = c) (hI : I s) (h : runMessage op prog s = .next t) :
    I t := by
  rcases runMessage_cases op prog s with ⟨hpc, -, -⟩ | ⟨m', rest, hpc, -, -⟩ | ⟨m', k, hpc, hr⟩ | ⟨m', hpc, hr⟩ <;>
    simp only [runningMsg, hpc, Option.some.injEq, reduceCtorEq] at hm <;> subst hm
  · have hs : setPc (.run m' k) s = s := by rw [← hpc]; rfl
    exact runActs_keeps hp hact herr hc (hs.symm ▸ hI) (hr ▸ h)
  · obtain rfl := Host.Outcome.next.inj (hr.symm.trans h)
    have hs : setPc (.failed m') s = s := by rw [← hpc]; rfl
    split
    · exact hI
    · exact ioErrorStep_keeps herr (hs.symm ▸ hI)

/-- What the engine must keep for a property to hold after every one of its turns: the taking of a message, every
action of every message, and the IoError step. -/
structure EngineKeeps (I : State → Prop) : Prop where
  env : ∀ e s, I s → I { s with env := e }
  taken : ∀ m rest s, s.eng.pc = .idle → s.inq = m :: rest → I s → I (take m rest s)
  act : ∀ m k a s t, stepAt (msgProg s.cfg m) k = some a → s.eng.pc = .run m k → I s → (a s).exit m k = some t → I t
  ioErr : ∀ m s, s.eng.pc = .failed m → ioErrorReady (msgOpcode m) s = true → I s → I (ioErrorEffect (msgOpcode m) s)

theorem take_eng_pc (m : Msg) (rest : List Msg) (s : State) : (take m rest s).eng.pc = .run m 1 := by
  cases m <;> rfl

/-- The engine's turn keeps what its parts keep. -/
theorem EngineKeeps.turn {I : State → Prop} (hI : EngineKeeps I) {s t : State} (hs : I s)
    (h : engineTurn s = .next t) : I t := by
  have hact (c : Config.Params) (m : Msg) (k : Nat) (a : Act) (u v : State) (ha : stepAt (msgProg c m) k = some a)
      (hc : u.cfg = c) (hpc : u.eng.pc = .run m k) (hu : I u) (hv : (a u).exit m k = some v) : I v :=
    hI.act m k a u v (hc ▸ ha) hpc hu hv
  have hbusy {m : Msg} (hm : runningMsg s = some m) (hr : runMsg m s = .next t) : I t :=
    runMessage_keeps (regularProg_msgProg s.cfg m) (hact s.cfg m) (hI.ioErr m) hm rfl hs
      (runMsg_eq_runMessage m s ▸ hr)
  unfold engineTurn at h
  rcases hpc : s.eng.pc with _ | ⟨m, k⟩ | m
  · rcases hq : s.inq with _ | ⟨m, rest⟩
    · simp only [currentMsg, hpc, hq, List.head?_nil] at h
      exact Host.Outcome.next.inj h ▸ hs
    · simp only [currentMsg, hpc, hq, List.head?_cons, runMsg_eq_runMessage, runMessage] at h
      have htaken := hI.taken m rest s hpc hq hs
      have hpc' : setPc (.run m 1) (take m rest s) = take m rest s := by rw [← take_eng_pc m rest s]; rfl
      exact runActs_keeps (regularProg_msgProg s.cfg m) (hact s.cfg m) (hI.ioErr m) (take_cfg m rest s)
        (hpc'.symm ▸ htaken) h
  all_goals
    simp only [currentMsg, hpc] at h
    exact hbusy (by simp only [runningMsg, hpc]) h

/-- What must be kept for a property to hold after every step: every agent's turn, and the reset input. -/
structure StepKeeps (I : State → Prop) : Prop extends EngineKeeps I where
  tick : ∀ s, I s → I (timerTick s)
  echo : ∀ p s, I s → I (echoStep p s)
  edge : ∀ s, I s → I (edgeTurn s)
  clk : ∀ b s, I s → I (clkTurn b s)
  hostWrite : ∀ a d s, I s → I (hostWrite a d s)
  hostRead : ∀ a s, I s → I (hostRead a s)
  reset : ∀ s, I s → I (blockReset s)

theorem dropTurn_eq_env (s : State) : dropTurn s = { s with env := (dropTurn s).env } := by
  unfold dropTurn
  split <;> rfl

/-- Every step keeps what every turn keeps. -/
theorem StepKeeps.step {I : State → Prop} (hI : StepKeeps I) {s t : State} (hs : I s) (h : step s = .next t) :
    I t := by
  have hdrop : I (dropTurn s) := by
    rw [dropTurn_eq_env]
    exact hI.env _ s hs
  unfold Machine.step at h
  rcases hturn : nextTurn s with n | _ | pick | _ | b | ⟨a, d⟩ | a | _ <;> rw [hturn] at h
  case eng => exact hI.turn (hI.env _ _ hdrop) h
  all_goals obtain rfl := Host.Outcome.next.inj h
  case tick => exact hI.tick _ hdrop
  case echo => exact hI.echo pick _ hdrop
  case edge => exact hI.edge _ hdrop
  case clk => exact hI.clk b _ hdrop
  case hostWrite => exact hI.hostWrite a d _ hdrop
  case hostRead => exact hI.hostRead a _ hdrop
  case reset => exact hI.reset _ hdrop

end Sys2Proof.Machine
end

/-! ### What one atomic action of a command can do -/

section

namespace Sys2Proof.Machine

open Sys2Proof.Safety

/-- The working registers replaced (R29). -/
def setWork (w : Work) (s : State) : State := { s with work := w }

/-- The instruction is a BEGIN. -/
def begins : Instr → Bool
  | .begin _ => true
  | _ => false

/-- The instruction is in its TX wait at this step (R163). -/
def waits : Instr → Nat → Bool
  | .transmit _, k => txWaitStep k
  | _, _ => false

/-- The step lies where the handles are open: past the connection check of a command that needs the chip (R153), or
past BEGIN's OpenHandles (R120). -/
def pastLink (i : Instr) (k : Nat) : Bool := (needsChip i && decide (2 ≤ k)) || (begins i && decide (4 ≤ k))

/-- What a setter leaves in the shadow (R125 to R132). -/
def shadowOf : Instr → Option (RadioCfg → RadioCfg)
  | .setFrequency f => some fun r => { r with freq := BitVec.ofNat 32 f }
  | .setSf sf => some (shadowSf sf)
  | .setBw k => some fun r => { r with bw := BitVec.ofNat 4 k }
  | .setCr k => some fun r => { r with cr := BitVec.ofNat 4 k }
  | .setTxPower p => some fun r => { r with txPwr := BitVec.ofNat 5 p }
  | .setSyncWord w => some fun r => { r with sync := BitVec.ofNat 8 w }
  | _ => none

/-- What an action that is no check moves from step `k` to step `j` with: a step of the rule, past the checks that
matter for it, and the TX wait neither entered nor left. -/
structure Moves (c : Config.Params) (i : Instr) (k j : Nat) : Prop where
  pos : 1 ≤ j
  last : j ≤ lastStepOf i
  past : (needsChip i || begins i) = true → pastLink i k = true ∧ pastLink i j = true
  legal : 3 ≤ k ∨ operandsLegal c i = true
  wait : waits i k = waits i j

/-- What a command does in the step of its Reply, besides the reply. -/
inductive ReplyUpd (i : Instr) (k : Nat) (s : State) : State → Prop
  | nothing (hb : begins i = true → k ≤ 2) (hw : waits i k = false) : ReplyUpd i k s s
  | rejects (hi : begins i = true) (hk : 4 ≤ k) :
      ReplyUpd i k s { closeHandles s with eng := { (closeHandles s).eng with mode := .unknown } }
  | connects (f : Nat) (hi : i = .begin f) (hk : 4 ≤ k) : ReplyUpd i k s (beginDone f s)
  | shadows (f : RadioCfg → RadioCfg) (hi : shadowOf i = some f) (hk : 3 ≤ k) :
      ReplyUpd i k s { s with radio := f s.radio }
  | resets (hi : i = .hardwareReset) : ReplyUpd i k s (resetDone s)
  | disconnects (hi : i = .disconnect) : ReplyUpd i k s (disconnected s)
  | subscribes (id' : Nat) (on : Bool) (hi : i = .subscribe id' ∨ i = .unsubscribe id') :
      ReplyUpd i k s (setSub id' on s)
  | sends (n : Nat) (st : Status) (kind : EventKind) (hi : i = .transmit n) (hkind : kind ≠ .rxFrame)
      (hk : k = 12 ∨ k = 14) : ReplyUpd i k s (emit (txEvent kind st (fromEcho s)) s)
  | starts (lp ld : Bool) (delay plen : Nat) (hi : i = .echoStart lp ld delay plen)
      (hfresh : s.ectl.session + 1 ≠ s.eseq.seen) : ReplyUpd i k s (echoStarted s)
  | stops (hi : i = .echoStop) : ReplyUpd i k s (echoStopped s)

/-- Everything one atomic action of a command can do: the state where step `k` of `i`, executed as message `m`, leads
from `s`, with x[PC] moved. -/
inductive CmdStep (c : Config.Params) (i : Instr) (m : Msg) (k : Nat) (s : State) : State → Prop
  /-- A check that passes (R153, R222). -/
  | checked (hk : k ≤ 2) (hlast : k < lastStepOf i)
      (hconn : k < 2 → needsChip i = true → s.eng.connected = true)
      (hbegin : k < 2 → begins i = true → s.eng.connected = false)
      (hlegal : k = 2 → operandsLegal c i = true) : CmdStep c i m k s (setPc (.run m (k + 1)) s)
  /-- The Reply, with what is atomic with it (R221). -/
  | replies (op : Byte) (st : Status) (v : Half) (u : State) (hroom : canReply s = true) (hu : ReplyUpd i k s u) :
      CmdStep c i m k s (setPc .idle (respond op st v u))
  /-- A transfer that fails (R104). -/
  | fails (e : BusEvent) (he : isTransfer e = true) (hlink : pastLink i k = true) :
      CmdStep c i m k s (setPc (.failed m) (afterBus s [e]))
  /-- A move that changes working registers at most. -/
  | works (j : Nat) (w : Work) (hm : Moves c i k j) (hw : w.rxb = s.work.rxb) :
      CmdStep c i m k s (setPc (.run m j) (setWork w s))
  /-- A transfer that changes working registers at most. -/
  | transfers (j : Nat) (e : BusEvent) (w : Work) (he : isTransfer e = true) (hlink : pastLink i k = true)
      (hm : Moves c i k j) (hw : w.rxb = s.work.rxb) :
      CmdStep c i m k s (setPc (.run m j) (setWork w (afterBus s [e])))
  /-- A mode write to SLEEP, STANDBY or RXCONT (R140). -/
  | modes (e : BusEvent) (md : Mode) (he : isTransfer e = true) (hlink : pastLink i k = true)
      (hm : Moves c i k (k + 1)) (hmd : md = .sleep ∨ md = .standby ∨ md = .rxCont) (hw : waits i k = false) :
      CmdStep c i m k s (setPc (.run m (k + 1)) (setMode md (afterBus s [e])))
  /-- The RXSINGLE write of RECEIVE_MODE with the load of its timer (R143). -/
  | arms (t : Nat) (e : BusEvent) (hi : i = .receiveMode t) (hk : k = 7) (he : isTransfer e = true) :
      CmdStep c i m k s (setPc (.run m 8) (loadRxSingle t (setMode .rxSingle (afterBus s [e]))))
  /-- OpenHandles (R105, R120). -/
  | opens (f : Nat) (hi : i = .begin f) (hk : k = 3) : CmdStep c i m k s (setPc (.run m 4) (openHandles s))
  /-- A level of `reset_n_o` (R120, R146). -/
  | drives (b : Bool) (hlink : pastLink i k = true) (hm : Moves c i k (k + 1)) :
      CmdStep c i m k s (setPc (.run m (k + 1)) (drive .reset b s))
  /-- The load of a wait (R110). -/
  | loadsWait (ms : Nat) (hi : begins i = true ∨ i = .hardwareReset) (hm : Moves c i k (k + 1)) :
      CmdStep c i m k s (setPc (.run m (k + 1)) (loadWait ms s))
  /-- The TX-mode write with the wait entry (R163). -/
  | entersTxWait (n : Nat) (e : BusEvent) (hi : i = .transmit n) (hk : k = 8) (he : isTransfer e = true) :
      CmdStep c i m k s (setPc (.run m 9) (enterTxWait (setMode .tx (afterBus s [e]))))
  /-- A poll of the TX wait (R164). -/
  | polls (n j : Nat) (e : BusEvent) (w : Work) (hi : i = .transmit n) (hk : k = 9) (hj : j = 9 ∨ j = 10 ∨ j = 13)
      (he : isTransfer e = true) (hw : w.rxb = s.work.rxb) :
      CmdStep c i m k s (setPc (.run m j) (setWork w (afterBus (clearTriggers s) [e])))
  /-- A poll of the TX wait whose transfer fails. -/
  | pollFails (n : Nat) (e : BusEvent) (hi : i = .transmit n) (hk : k = 9) (he : isTransfer e = true) :
      CmdStep c i m k s (setPc (.failed m) (afterBus (clearTriggers s) [e]))
  /-- The Standby write that ends the TX wait (R165, R166). -/
  | leavesTxWait (n : Nat) (e : BusEvent) (hi : i = .transmit n) (hk : k = 11 ∨ k = 13) (he : isTransfer e = true) :
      CmdStep c i m k s (setPc (.run m (k + 1)) (leaveTxWait (setMode .standby (afterBus s [e]))))
  /-- One byte of x[E_PREFIX] (R191). -/
  | copies (lp ld : Bool) (delay plen j x : Nat) (b : Byte) (w : Work) (hi : i = .echoStart lp ld delay plen)
      (hm : Moves c i k j) (hw : w.rxb = s.work.rxb) :
      CmdStep c i m k s
        (setPc (.run m j) (setWork w { s with ectl := { s.ectl with pfx := s.ectl.pfx.set x b } }))
  /-- x[E_PLEN] and x[E_DELAY] (R191). -/
  | loadsEcho (lp ld : Bool) (delay plen : Nat) (n : Byte) (d : Half) (hi : i = .echoStart lp ld delay plen)
      (hm : Moves c i k (k + 1)) :
      CmdStep c i m k s (setPc (.run m (k + 1)) { s with ectl := { s.ectl with plen := n, delay := d } })

/-! #### The actions, one by one -/

/-- Action `a`, as step `k` of command `i`, does nothing but what `CmdStep` lists. -/
def Does (c : Config.Params) (i : Instr) (k : Nat) (a : Act) : Prop :=
  ∀ (m : Msg) (s t : State), s.cfg = c → (a s).exit m k = some t → CmdStep c i m k s t

section
variable {c : Config.Params} {i : Instr} {k : Nat}

theorem does_reply {op : Byte} {st : Status} {v : State → Half} {upd : State → State}
    (hu : ∀ s, ReplyUpd i k s (upd s)) : Does c i k (fun s => replyWith op st (v s) upd s) := by
  intro m s t _ h
  simp only [replyWith_spec] at h
  split at h
  · rename_i hroom
    obtain rfl := Option.some.inj h
    exact .replies op st (v s) (upd s) hroom (hu s)
  · cases h

theorem does_replyWith {op : Byte} {st : Status} {v : Half} {upd : State → State}
    (hu : ∀ s, ReplyUpd i k s (upd s)) : Does c i k (replyWith op st v upd) :=
  does_reply (v := fun _ => v) hu

/-- A check: what holds where it passes is its own. -/
theorem does_need {ok : State → Bool} {op : Byte} {st : Status} (hk : k ≤ 2) (hlast : k < lastStepOf i)
    (hconn : k < 2 → needsChip i = true → ∀ s, ok s = true → s.eng.connected = true)
    (hbegin : k < 2 → begins i = true → ∀ s, ok s = true → s.eng.connected = false)
    (hlegal : k = 2 → ∀ s, s.cfg = c → ok s = true → operandsLegal c i = true)
    (hw : waits i k = false) : Does c i k (need ok op st) := by
  intro m s t hc h
  simp only [need] at h
  split at h
  · rename_i hok
    obtain rfl := Option.some.inj h
    exact .checked hk hlast (fun h1 h2 => hconn h1 h2 s hok) (fun h1 h2 => hbegin h1 h2 s hok)
      (fun h1 => hlegal h1 s hc hok)
  · exact does_replyWith (fun _ => .nothing (fun _ => hk) hw) m s t hc h

/-- An update that changes working registers at most, and not x[RXB]. -/
def WorkUpd (upd : State → State) : Prop := ∀ s, ∃ w, w.rxb = s.work.rxb ∧ upd s = setWork w s

theorem workUpd_id : WorkUpd id := fun s => ⟨s.work, rfl, rfl⟩
theorem workUpd_setI (x : BitVec 9) : WorkUpd (setI x) := fun s => ⟨{ s.work with i := x }, rfl, rfl⟩
theorem workUpd_setV (v : Byte) : WorkUpd (setV v) := fun s => ⟨{ s.work with v := v }, rfl, rfl⟩

/-- A transfer and what follows it where it does not fail. -/
theorem does_transfer {a : Act} {e : State → BusEvent} {f : State → Flow} (he : ∀ s, isTransfer (e s) = true)
    (hlink : pastLink i k = true)
    (ha : ∀ s, a s = if spiErrNow s then .ioErr (afterBus s [e s]) else f s)
    (hf : Does c i k f) : Does c i k a := by
  intro m s t hc h
  rw [ha] at h
  split at h
  · obtain rfl := Option.some.inj h
    exact .fails (e s) (he s) hlink
  · exact hf m s t hc h

theorem does_writeAct {reg : Config.RegMap → ChipAddr} {val : State → Byte} {upd : State → State}
    (hlink : pastLink i k = true) (hm : Moves c i k (k + 1)) (hu : WorkUpd upd) :
    Does c i k (writeAct reg val upd) := by
  refine does_transfer (e := fun s => .write (reg s.cfg.regmap) (val s)) (fun _ => rfl) hlink
    (writeAct_spec reg val upd) fun m s t _ h => ?_
  obtain ⟨w, hw, hupd⟩ := hu (afterBus s [.write (reg s.cfg.regmap) (val s)])
  obtain rfl := Option.some.inj h
  rw [hupd]
  exact .transfers (k + 1) _ w rfl hlink hm hw

theorem does_readAct {reg : Config.RegMap → ChipAddr} {store : Byte → State → State}
    (hlink : pastLink i k = true) (hm : Moves c i k (k + 1)) (hu : ∀ v, WorkUpd (store v)) :
    Does c i k (readAct reg store) := by
  refine does_transfer (e := fun s => .read (reg s.cfg.regmap) (chipAnswer s)) (fun _ => rfl) hlink
    (readAct_spec reg store) fun m s t _ h => ?_
  obtain ⟨w, hw, hupd⟩ := hu (chipAnswer s) (afterBus s [.read (reg s.cfg.regmap) (chipAnswer s)])
  obtain rfl := Option.some.inj h
  rw [hupd]
  exact .transfers (k + 1) _ w rfl hlink hm hw

/-- A mode write, by what follows it. -/
theorem does_opModeAct_of {md : Mode} {upd : State → State} (hlink : pastLink i k = true)
    (hstep : ∀ m s e, isTransfer e = true →
      CmdStep c i m k s (setPc (.run m (k + 1)) (upd (setMode md (afterBus s [e]))))) :
    Does c i k (opModeAct md upd) := by
  refine does_transfer (e := fun s => .write s.cfg.regmap.opMode (opModeByte md)) (fun _ => rfl) hlink
    (opModeAct_spec md upd) fun m s t _ h => ?_
  obtain rfl := Option.some.inj h
  exact hstep m s _ rfl

theorem does_opModeAct {md : Mode} (hlink : pastLink i k = true) (hm : Moves c i k (k + 1))
    (hmd : md = .sleep ∨ md = .standby ∨ md = .rxCont) (hw : waits i k = false) : Does c i k (opModeAct md) :=
  does_opModeAct_of hlink fun _ _ e he => .modes e md he hlink hm hmd hw

theorem does_setAct {f : State → State} (hstep : ∀ m s, CmdStep c i m k s (setPc (.run m (k + 1)) (f s))) :
    Does c i k (setAct f) := by
  intro m s t _ h
  obtain rfl := Option.some.inj h
  exact hstep m s

theorem does_holdAct (hm : Moves c i k (k + 1)) : Does c i k holdAct := by
  intro m s t _ h
  simp only [holdAct] at h
  split at h
  · obtain rfl := Option.some.inj h
    exact .works (k + 1) s.work hm rfl
  · cases h

end

/-! #### Lists of actions, numbered -/

/-- Every action of a list has a property of its number, counted from `k` on. -/
def Numbered (Q : Nat → Act → Prop) : Nat → List Act → Prop
  | _, [] => True
  | k, a :: l => Q k a ∧ Numbered Q (k + 1) l

@[simp] theorem numbered_nil {Q : Nat → Act → Prop} {k : Nat} : Numbered Q k [] ↔ True := Iff.rfl

@[simp] theorem numbered_cons {Q : Nat → Act → Prop} {k : Nat} {a : Act} {l : List Act} :
    Numbered Q k (a :: l) ↔ Q k a ∧ Numbered Q (k + 1) l := Iff.rfl

@[simp] theorem numbered_append {Q : Nat → Act → Prop} {k : Nat} {l l' : List Act} :
    Numbered Q k (l ++ l') ↔ Numbered Q k l ∧ Numbered Q (k + l.length) l' := by
  induction l generalizing k with
  | nil => simp
  | cons a l ih => simp [ih, and_assoc, Nat.add_assoc, Nat.add_comm 1]

theorem numbered_of_forall {Q : Nat → Act → Prop} {k : Nat} {l : List Act}
    (h : ∀ j, k ≤ j → j < k + l.length → ∀ a ∈ l, Q j a) : Numbered Q k l := by
  induction l generalizing k with
  | nil => trivial
  | cons a l ih =>
    refine ⟨h k le_rfl (by simp) a (by simp), ih fun j hj hl b hb => h j (by omega) ?_ b (by simp [hb])⟩
    simp only [List.length_cons]
    omega

theorem Numbered.stepAt {Q : Nat → Act → Prop} {prog : List Act} (h : Numbered Q 1 prog) {k : Nat} {a : Act}
    (ha : stepAt prog k = some a) : Q k a := by
  have hfrom (l : List Act) (n j : Nat) (hl : Numbered Q n l) (hj : l[j]? = some a) : Q (n + j) a := by
    induction l generalizing n j with
    | nil => simp at hj
    | cons b l ih =>
      cases j with
      | zero =>
        obtain rfl : b = a := by simpa using hj
        exact hl.1
      | succ j =>
        have hQ := ih (n + 1) j hl.2 (by simpa using hj)
        rwa [Nat.add_right_comm] at hQ
  cases k with
  | zero => cases ha
  | succ k =>
    rw [Nat.add_comm]
    exact hfrom prog 1 k h ha

/-! #### The bodies of the setters and BEGIN's configuration -/

/-- An action of a setter's body: a transfer that reads into x[W_V] or writes a register, or a write of the mode
STANDBY or SLEEP. -/
def Plain (a : Act) : Prop :=
  ∀ c i k, pastLink i k = true → Moves c i k (k + 1) → waits i k = false → Does c i k a

@[simp] theorem plain_writeAct {reg : Config.RegMap → ChipAddr} {val : State → Byte} : Plain (writeAct reg val) :=
  fun _ _ _ hlink hm _ => does_writeAct hlink hm workUpd_id

@[simp] theorem plain_readAct {reg : Config.RegMap → ChipAddr} : Plain (readAct reg setV) :=
  fun _ _ _ hlink hm _ => does_readAct hlink hm workUpd_setV

@[simp] theorem plain_standby : Plain (opModeAct .standby) :=
  fun _ _ _ hlink hm hw => does_opModeAct hlink hm (.inr (.inl rfl)) hw

@[simp] theorem plain_sleep : Plain (opModeAct .sleep) :=
  fun _ _ _ hlink hm hw => does_opModeAct hlink hm (.inl rfl) hw

theorem plain_frfActs (f : Nat) : ∀ a ∈ frfActs f, Plain a := by simp [frfActs]
theorem plain_sfBody (sf : Nat) : ∀ a ∈ sfBody sf, Plain a := by unfold sfBody; split <;> simp
theorem plain_bwBody (k : Nat) : ∀ a ∈ bwBody k, Plain a := by simp [bwBody]
theorem plain_crBody (cr : Nat) : ∀ a ∈ crBody cr, Plain a := by simp [crBody]
theorem plain_powerBody (p : Nat) : ∀ a ∈ powerBody p, Plain a := by simp [powerBody]
theorem plain_syncBody (w : Nat) : ∀ a ∈ syncBody w, Plain a := by simp [syncBody]

theorem plain_append {l l' : List Act} (h : ∀ a ∈ l, Plain a) (h' : ∀ a ∈ l', Plain a) : ∀ a ∈ l ++ l', Plain a :=
  List.forall_mem_append.mpr ⟨h, h'⟩

theorem plain_applyDefaults : ∀ a ∈ applyDefaults, Plain a :=
  plain_append (plain_append (plain_append (plain_append (plain_append (plain_powerBody 14) (plain_sfBody 7))
    (plain_bwBody 7)) (plain_crBody 5)) (by simp)) (plain_syncBody 0x34)

theorem plain_beginConfig (f : Nat) : ∀ a ∈ beginConfig f, Plain a :=
  plain_append (plain_append (plain_append (plain_frfActs f) (by simp)) plain_applyDefaults) (by simp)

theorem length_sfBody (sf : Nat) : (sfBody sf).length = if sf = 6 then 7 else 5 := by
  unfold sfBody
  split <;> rfl

theorem begins_of_shadowOf {i : Instr} {f : RadioCfg → RadioCfg} (h : shadowOf i = some f) : begins i = false := by
  cases i <;> simp_all [shadowOf, begins]

theorem waits_of_shadowOf {i : Instr} {f : RadioCfg → RadioCfg} (h : shadowOf i = some f) (k : Nat) :
    waits i k = false := by
  cases i <;> simp_all [shadowOf, waits]

/-- A setter's program, by its body (R134). -/
theorem numbered_setterProg {c : Config.Params} {i : Instr} {op : Byte} {body : List Act}
    {shadow : RadioCfg → RadioCfg} (hi : shadowOf i = some shadow) (hchip : needsChip i = true)
    (hb : ∀ a ∈ body, Plain a) (hlast : lastStepOf i = body.length + 3) :
    Numbered (Does c i) 1 (setterProg op (operandsLegal c i) body shadow) := by
  have hbegins : begins i = false := begins_of_shadowOf hi
  have hwaits : ∀ k, waits i k = false := waits_of_shadowOf hi
  have hlink {k : Nat} (hk : 2 ≤ k) : pastLink i k = true := by simp [pastLink, hchip, hk]
  have hbody : Numbered (Does c i) 3 body := by
    refine numbered_of_forall fun j hj hl a ha => hb a ha c i j (hlink (by omega)) ⟨by omega, by omega, ?_, ?_, ?_⟩
      (hwaits j)
    · exact fun _ => ⟨hlink (by omega), hlink (by omega)⟩
    · exact .inl hj
    · rw [hwaits, hwaits]
  simp only [setterProg, List.cons_append, List.nil_append, numbered_cons, numbered_append, numbered_nil, and_true]
  refine ⟨?_, ?_, hbody, ?_⟩
  · exact does_need (by omega) (by omega) (fun _ _ _ h => h) (by simp [hbegins]) (by simp) (hwaits 1)
  · exact does_need le_rfl (by omega) (by simp) (by simp) (fun _ _ _ h => h) (hwaits 2)
  · exact does_replyWith fun s => .shadows shadow hi (by omega)

end Sys2Proof.Machine
end

/-! ### What one atomic action of each message can do -/

section

namespace Sys2Proof.Machine

open Sys2Proof.Safety

/-- The conditions of a move at given step numbers, as one check that evaluates. -/
def movesOk (c : Config.Params) (i : Instr) (k j : Nat) : Bool :=
  decide (1 ≤ j) && decide (j ≤ lastStepOf i) && (!(needsChip i || begins i) || (pastLink i k && pastLink i j)) &&
  (decide (3 ≤ k) || operandsLegal c i) && waits i k == waits i j

theorem moves_of_movesOk {c : Config.Params} {i : Instr} {k j : Nat} (h : movesOk c i k j = true) :
    Moves c i k j := by
  simp only [movesOk, Bool.and_eq_true, Bool.or_eq_true, decide_eq_true_eq, Bool.not_eq_true', beq_iff_eq] at h
  obtain ⟨⟨⟨⟨hpos, hlast⟩, hpast⟩, hlegal⟩, hwait⟩ := h
  exact ⟨hpos, hlast, fun hn => hpast.resolve_left (by simp [hn]), hlegal, hwait⟩

section
variable {c : Config.Params} {i : Instr}

/-- The connection check of a command that needs the chip (R153). -/
theorem does_needConnected {op : Byte} (hlast : 1 < lastStepOf i) (hchip : needsChip i = true)
    (hw : waits i 1 = false) : Does c i 1 (needConnected op) :=
  does_need (by omega) hlast (fun _ _ _ h => h)
    (fun _ hb => by cases i <;> simp_all [needsChip, begins]) (by simp) hw

/-- The operand check (R90, R153). -/
theorem does_needLegal {ok : State → Bool} {op : Byte} {st : Status} (hlast : 2 < lastStepOf i)
    (hok : ∀ s, s.cfg = c → ok s = true → operandsLegal c i = true) (hw : waits i 2 = false) :
    Does c i 2 (need ok op st) :=
  does_need le_rfl hlast (by simp) (by simp) (fun _ => hok) hw

/-- The reply of a command that is no BEGIN, outside a TX wait, with nothing else. -/
theorem does_replyOnly {op : Byte} {st : Status} {v : State → Half} {k : Nat} (hb : begins i = false)
    (hw : waits i k = false) : Does c i k (fun s => replyWith op st (v s) id s) :=
  does_reply fun _ => .nothing (by simp [hb]) hw

end

/-! #### BEGIN -/

theorem moves_begin {c : Config.Params} {f k : Nat} (hk : 4 ≤ k) (hl : k < 47) :
    Moves c (.begin f) k (k + 1) where
  pos := by omega
  last := hl
  past _ := by simp [pastLink, begins, hk, (by omega : 3 ≤ k)]
  legal := .inl (by omega)
  wait := rfl

theorem numbered_begin (c : Config.Params) (f : Nat) : Numbered (Does c (.begin f)) 1 (instrProg c (.begin f)) := by
  have hlink {k : Nat} (hk : 4 ≤ k) : pastLink (.begin f) k = true := by simp [pastLink, begins, hk]
  have hplain {k : Nat} {a : Act} (ha : Plain a) (hk : 4 ≤ k) (hl : k < 47) : Does c (.begin f) k a :=
    ha c _ k (hlink hk) (moves_begin hk hl) rfl
  have hdrive (k : Nat) (b : Bool) (hk : 4 ≤ k) (hl : k < 47) : Does c (.begin f) k (setAct (drive .reset b)) :=
    does_setAct fun _ _ => .drives b (hlink hk) (moves_begin hk hl)
  have hload (k : Nat) (hk : 4 ≤ k) (hl : k < 47) : Does c (.begin f) k (setAct (loadWait 10)) :=
    does_setAct fun _ _ => .loadsWait 10 (.inl rfl) (moves_begin hk hl)
  have hhold (k : Nat) (hk : 4 ≤ k) (hl : k < 47) : Does c (.begin f) k holdAct := does_holdAct (moves_begin hk hl)
  have hversion : Does c (.begin f) 11 versionAct := by
    intro m s t hc h
    simp only [versionAct] at h
    split at h
    · obtain rfl := Option.some.inj h
      exact .works 12 s.work (moves_begin (by omega) (by omega)) rfl
    · exact does_replyWith (fun u => .rejects rfl (by omega)) m s t hc h
  have hconfig : Numbered (Does c (.begin f)) 15 (beginConfig f) :=
    numbered_of_forall fun j hj hl a ha => hplain (plain_beginConfig f a ha) (by omega) hl
  simp only [instrProg, beginStart, waitActs, List.cons_append, List.nil_append, numbered_cons, numbered_append,
    numbered_nil, and_true]
  refine ⟨?_, ?_, ?_, hdrive 4 _ (by omega) (by omega), hload 5 (by omega) (by omega), hhold 6 (by omega) (by omega),
    hdrive 7 _ (by omega) (by omega), hload 8 (by omega) (by omega), hhold 9 (by omega) (by omega),
    hplain plain_readAct (by omega) (by omega), hversion, hplain plain_sleep (by omega) (by omega),
    hload 13 (by omega) (by omega), hhold 14 (by omega) (by omega), hconfig, ?_⟩
  · exact does_need (by omega) (by simp [lastStepOf]) (by simp [needsChip]) (fun _ _ s hs => by simpa using hs) (by simp) rfl
  · exact does_needLegal (by simp [lastStepOf]) (fun _ _ h => h) rfl
  · exact does_setAct fun _ _ => .opens f rfl rfl
  · exact does_replyWith fun _ => .connects f rfl (by omega)

/-! #### The mode commands, the queries and the subscriptions -/

theorem numbered_receiveMode (c : Config.Params) (t : Nat) :
    Numbered (Does c (.receiveMode t)) 1 (instrProg c (.receiveMode t)) := by
  have harm : Does c (.receiveMode t) 7 (armAct t) := by
    unfold armAct
    split
    · exact does_opModeAct rfl (moves_of_movesOk rfl) (.inr (.inr rfl)) rfl
    · exact does_opModeAct_of rfl fun _ _ e he => .arms t e rfl rfl he
  refine ⟨does_needConnected (by simp [lastStepOf]) rfl rfl, does_needLegal (by simp [lastStepOf]) ?_ rfl,
    plain_standby c _ 3 rfl (moves_of_movesOk rfl) rfl, plain_writeAct c _ 4 rfl (moves_of_movesOk rfl) rfl,
    plain_writeAct c _ 5 rfl (moves_of_movesOk rfl) rfl, plain_writeAct c _ 6 rfl (moves_of_movesOk rfl) rfl, harm,
    does_replyOnly rfl rfl, trivial⟩
  exact fun s hc h => hc ▸ h

theorem numbered_hardwareReset (c : Config.Params) :
    Numbered (Does c .hardwareReset) 1 (instrProg c .hardwareReset) :=
  ⟨does_needConnected (by simp [lastStepOf]) rfl rfl,
    does_setAct fun _ _ => .drives false rfl (moves_of_movesOk rfl),
    does_setAct fun _ _ => .loadsWait 10 (.inr rfl) (moves_of_movesOk rfl),
    does_holdAct (moves_of_movesOk rfl),
    does_setAct fun _ _ => .drives true rfl (moves_of_movesOk rfl),
    does_setAct fun _ _ => .loadsWait 10 (.inr rfl) (moves_of_movesOk rfl),
    does_holdAct (moves_of_movesOk rfl),
    does_replyWith fun _ => .resets rfl, trivial⟩

/-- A command of one mode write or one read, between the connection check and the reply. -/
theorem numbered_checkedAct {c : Config.Params} {i : Instr} {op o : Byte} {st : Status} {v : State → Half} {a : Act}
    (hchip : needsChip i = true) (hlast : lastStepOf i = 3) (hlegal : operandsLegal c i = true)
    (hw : ∀ k, waits i k = false) (ha : Plain a) :
    Numbered (Does c i) 1 [needConnected op, a, fun s => replyWith o st (v s) id s] := by
  have hlink : pastLink i 2 = true := by simp [pastLink, hchip]
  refine ⟨does_needConnected (by omega) hchip (hw 1), ha c i 2 hlink ?_ (hw 2), does_replyOnly ?_ (hw 3), trivial⟩
  · exact ⟨by omega, by omega, fun _ => ⟨hlink, by simp [pastLink, hchip]⟩, .inr hlegal, by rw [hw, hw]⟩
  · cases i <;> simp_all [needsChip, begins]

/-! #### TRANSMIT -/

theorem does_fifoAct (c : Config.Params) (n : Nat) : Does c (.transmit n) 5 (fifoAct n) := by
  refine does_transfer (e := fun s => .write s.cfg.regmap.fifo (payloadByte s s.work.i.toNat)) (fun _ => rfl) rfl
    (fun _ => rfl) fun m s t _ h => ?_
  obtain ⟨w, hw, hupd⟩ := workUpd_setI (s.work.i + 1)
    (afterBus s [.write s.cfg.regmap.fifo (payloadByte s s.work.i.toNat)])
  simp only [memWrite_spec, hupd] at h
  split at h <;> obtain rfl := Option.some.inj h
  · exact .transfers 5 _ w rfl rfl (moves_of_movesOk rfl) hw
  · exact .transfers 6 _ w rfl rfl (moves_of_movesOk rfl) hw

/-- The TX wait, case by case (R164). -/
theorem txPollAct_spec (s : State) :
    txPollAct s =
      if s.tx.pollReq || s.tx.edge then
        let v := chipAnswer s
        let polled := afterBus (clearTriggers s) [.read s.cfg.regmap.irqFlags v]
        if spiErrNow s then .ioErr polled
        else if irqHas v irqTxDone then .goto 10 (setIrq v polled)
        else if 5000 ≤ s.tx.ticks.toNat then .goto 13 (setIrq v polled)
        else .goto 9 (setIrq v polled)
      else .hold := rfl

theorem does_txPollAct (c : Config.Params) (n : Nat) : Does c (.transmit n) 9 txPollAct := by
  intro m s t _ h
  have hpoll (j : Nat) (hj : j = 9 ∨ j = 10 ∨ j = 13) :=
    CmdStep.polls (c := c) (m := m) (s := s) n j (.read s.cfg.regmap.irqFlags (chipAnswer s))
      { s.work with irq := chipAnswer s } rfl rfl hj rfl rfl
  rw [txPollAct_spec] at h
  split at h
  · simp only at h
    split at h
    · obtain rfl := Option.some.inj h
      exact .pollFails n _ rfl rfl rfl
    · split at h
      · obtain rfl := Option.some.inj h
        exact hpoll 10 (by simp)
      · split at h <;> obtain rfl := Option.some.inj h
        · exact hpoll 13 (by simp)
        · exact hpoll 9 (by simp)
  · cases h

theorem does_txReplyAct (c : Config.Params) (n k : Nat) (st : Status) (kind : EventKind) (hkind : kind ≠ .rxFrame)
    (hk : k = 12 ∨ k = 14) : Does c (.transmit n) k (txReplyAct st kind) := by
  intro m s t hc h
  simp only [txReplyAct, replyWith_spec] at h
  split at h
  · rename_i hroom
    obtain rfl := Option.some.inj h
    exact .replies _ _ _ _ hroom (.sends n st kind rfl hkind hk)
  · cases h

theorem numbered_transmit (c : Config.Params) (n : Nat) :
    Numbered (Does c (.transmit n)) 1 (instrProg c (.transmit n)) := by
  have hleave (k : Nat) (hlink : pastLink (.transmit n) k = true) (hk : k = 11 ∨ k = 13) :
      Does c (.transmit n) k (opModeAct .standby leaveTxWait) :=
    does_opModeAct_of hlink fun _ _ e he => .leavesTxWait n e rfl hk he
  refine ⟨does_needConnected (by simp [lastStepOf]) rfl rfl, does_needLegal (by simp [lastStepOf]) ?_ rfl,
    plain_standby c _ 3 rfl (moves_of_movesOk rfl) rfl, does_writeAct rfl (moves_of_movesOk rfl) (workUpd_setI 0),
    does_fifoAct c n, plain_writeAct c _ 6 rfl (moves_of_movesOk rfl) rfl,
    plain_writeAct c _ 7 rfl (moves_of_movesOk rfl) rfl,
    does_opModeAct_of rfl fun _ _ e he => .entersTxWait n e rfl rfl he,
    does_txPollAct c n, does_writeAct rfl (moves_of_movesOk rfl) workUpd_id, hleave 11 rfl (by simp),
    does_txReplyAct c n 12 _ _ (by simp) (by simp), hleave 13 rfl (by simp),
    does_txReplyAct c n 14 _ _ (by simp) (by simp), trivial⟩
  exact fun s hc h => hc ▸ h

/-! #### ECHO_START -/

theorem does_prefixStartAct (c : Config.Params) (lp ld : Bool) (delay plen : Nat) :
    Does c (.echoStart lp ld delay plen) 3 (prefixStartAct lp plen) := by
  intro m s t _ h
  simp only [prefixStartAct] at h
  split at h <;> obtain rfl := Option.some.inj h
  · exact .works 4 { s.work with i := 0 } (moves_of_movesOk rfl) rfl
  · exact .works 5 s.work (moves_of_movesOk rfl) rfl

theorem does_prefixCopyAct (c : Config.Params) (lp ld : Bool) (delay plen : Nat) :
    Does c (.echoStart lp ld delay plen) 4 (prefixCopyAct plen) := by
  intro m s t _ h
  have hcopy (j : Nat) (hm : Moves c (.echoStart lp ld delay plen) 4 j) :=
    CmdStep.copies (m := m) (s := s) lp ld delay plen j s.work.i.toNat (txByte s s.work.i.toNat)
      { s.work with i := s.work.i + 1 } rfl hm rfl
  simp only [prefixCopyAct] at h
  split at h <;> obtain rfl := Option.some.inj h
  · exact hcopy 4 (moves_of_movesOk rfl)
  · exact hcopy 5 (moves_of_movesOk rfl)

theorem does_echoStartAct (c : Config.Params) (lp ld : Bool) (delay plen : Nat) :
    Does c (.echoStart lp ld delay plen) 7 echoStartAct := by
  intro m s t _ h
  simp only [echoStartAct, replyWith_spec] at h
  split at h
  · cases h
  · rename_i hfresh
    split at h
    · rename_i hroom
      obtain rfl := Option.some.inj h
      exact .replies _ _ _ _ hroom (.starts lp ld delay plen rfl (by simpa [hroom] using hfresh))
    · cases h

theorem numbered_echoStart (c : Config.Params) (lp ld : Bool) (delay plen : Nat) :
    Numbered (Does c (.echoStart lp ld delay plen)) 1 (instrProg c (.echoStart lp ld delay plen)) := by
  have hloads (k : Nat) (hm : Moves c (.echoStart lp ld delay plen) k (k + 1)) (f : State → State)
      (hf : ∀ s, ∃ n d, f s = { s with ectl := { s.ectl with plen := n, delay := d } }) :
      Does c (.echoStart lp ld delay plen) k (setAct f) :=
    does_setAct fun m s => by
      obtain ⟨n, d, h⟩ := hf s
      rw [h]
      exact .loadsEcho lp ld delay plen n d rfl hm
  refine ⟨does_need (by omega) (by simp [lastStepOf]) (by simp [needsChip]) (by simp [begins]) (by simp) rfl,
    does_needLegal (by simp [lastStepOf]) ?_ rfl, does_prefixStartAct c lp ld delay plen,
    does_prefixCopyAct c lp ld delay plen, hloads 5 (moves_of_movesOk rfl) _ ?_,
    hloads 6 (moves_of_movesOk rfl) _ ?_, does_echoStartAct c lp ld delay plen, trivial⟩
  · exact fun s hc h => hc ▸ h
  · exact fun s => by cases lp <;> exact ⟨_, _, rfl⟩
  · exact fun s => by cases ld <;> exact ⟨_, _, rfl⟩

/-! #### Every command -/

theorem numbered_instrProg (c : Config.Params) (i : Instr) : Numbered (Does c i) 1 (instrProg c i) := by
  cases i with
  | begin f => exact numbered_begin c f
  | setFrequency f =>
    exact numbered_setterProg (i := .setFrequency f) rfl rfl (List.forall_mem_cons.mpr ⟨plain_standby, plain_frfActs f⟩) rfl
  | setSf sf =>
    refine numbered_setterProg (i := .setSf sf) rfl rfl (plain_sfBody sf) ?_
    rw [length_sfBody, lastStepOf]
    split <;> rfl
  | setBw k => exact numbered_setterProg (i := .setBw k) rfl rfl (plain_bwBody k) rfl
  | setCr k => exact numbered_setterProg (i := .setCr k) rfl rfl (plain_crBody k) rfl
  | setTxPower p => exact numbered_setterProg (i := .setTxPower p) rfl rfl (plain_powerBody p) rfl
  | setSyncWord w => exact numbered_setterProg (i := .setSyncWord w) rfl rfl (plain_syncBody w) rfl
  | transmit n => exact numbered_transmit c n
  | receiveMode t => exact numbered_receiveMode c t
  | standby => exact numbered_checkedAct (v := fun _ => 0) rfl rfl rfl (fun _ => rfl) plain_standby
  | sleep => exact numbered_checkedAct (v := fun _ => 0) rfl rfl rfl (fun _ => rfl) plain_sleep
  | hardwareReset => exact numbered_hardwareReset c
  | disconnect => exact ⟨does_replyWith fun _ => .disconnects rfl, trivial⟩
  | getRssi => exact numbered_checkedAct rfl rfl rfl (fun _ => rfl) plain_readAct
  | getVersion => exact numbered_checkedAct rfl rfl rfl (fun _ => rfl) plain_readAct
  | subscribe id' => exact ⟨does_replyWith fun _ => .subscribes id' true (.inl rfl), trivial⟩
  | unsubscribe id' => exact ⟨does_replyWith fun _ => .subscribes id' false (.inr rfl), trivial⟩
  | echoStart lp ld delay plen => exact numbered_echoStart c lp ld delay plen
  | echoStop => exact ⟨does_replyWith fun _ => .stops rfl, trivial⟩

/-- Every action of a command does one of the things that `CmdStep` lists. -/
theorem cmdStep_of_exit {i : Instr} {m : Msg} {k : Nat} {a : Act} {s t : State}
    (ha : stepAt (instrProg s.cfg i) k = some a) (h : (a s).exit m k = some t) : CmdStep s.cfg i m k s t :=
  (numbered_instrProg s.cfg i).stepAt ha m s t rfl h

/-! #### The tokens -/

/-- Everything one atomic action of a DIO0 dispatch can do (R170 to R177), as `CmdStep` says it of a command. -/
inductive EdgeStep (k : Nat) (s : State) : State → Prop
  /-- E1 with a connection. -/
  | connected (hk : k = 1) (hc : s.eng.connected = true) : EdgeStep k s (setPc (.run .edge 2) s)
  /-- The end with no transfer. -/
  | ends : EdgeStep k s (setPc .idle s)
  | fails (e : BusEvent) (he : isTransfer e = true) (hk : 2 ≤ k) : EdgeStep k s (setPc (.failed .edge) (afterBus s [e]))
  /-- A move that changes working registers at most. -/
  | works (j : Nat) (w : Work) (hk : 2 ≤ k) (hj : 1 ≤ j ∧ j ≤ 15) (hw : w.rxb.length = s.work.rxb.length) :
      EdgeStep k s (setPc (.run .edge j) (setWork w s))
  /-- A transfer that changes working registers at most. -/
  | transfers (j : Nat) (e : BusEvent) (w : Work) (he : isTransfer e = true) (hk : 2 ≤ k) (hj : 1 ≤ j ∧ j ≤ 15)
      (hw : w.rxb.length = s.work.rxb.length) : EdgeStep k s (setPc (.run .edge j) (setWork w (afterBus s [e])))
  /-- The RX_FRAME event (R172 step X8). -/
  | emits (hk : k = 12) : EdgeStep k s (setPc (.run .edge 13) (emit (rxEvent s) s))
  /-- The Standby write that ends an RX-single window (R176). -/
  | endsWindow (e : BusEvent) (he : isTransfer e = true) (hk : 2 ≤ k) :
      EdgeStep k s (setPc .idle (setMode .standby (afterBus s [e])))
  /-- The spurious clear (R173). -/
  | clears (e : BusEvent) (he : isTransfer e = true) (hk : 2 ≤ k) : EdgeStep k s (setPc .idle (afterBus s [e]))

/-- x[RXS_FIRED] <- 0, as an RXTMO token is handled (R144). -/
def clearFired (s : State) : State := { s with rxs := { s.rxs with fired := false } }

/-- Everything the one atomic action of an RXTMO token can do (R144). -/
inductive RxtmoStep (s : State) : State → Prop
  | stale : RxtmoStep s (setPc .idle s)
  | fails (e : BusEvent) (he : isTransfer e = true) (hf : s.rxs.fired = true) :
      RxtmoStep s (setPc (.failed .rxtmo) (afterBus (clearFired s) [e]))
  | standby (e : BusEvent) (he : isTransfer e = true) (hf : s.rxs.fired = true) :
      RxtmoStep s (setPc .idle (setMode .standby (afterBus (clearFired s) [e])))

/-- Everything one atomic action of a message can do. -/
inductive MsgStep (m : Msg) (k : Nat) (s : State) : State → Prop
  | command {t : State} (i : Instr) (hi : msgInstr m = some i) (h : CmdStep s.cfg i m k s t) : MsgStep m k s t
  /-- A reserved opcode (R83). -/
  | reserved (w : CmdWord) (op : Byte) (hm : m = .hcmd w) (hi : msgInstr m = none) (hroom : canReply s = true) :
      MsgStep m k s (setPc .idle (respond op .invalidParam 0 s))
  | edge {t : State} (hm : m = .edge) (h : EdgeStep k s t) : MsgStep m k s t
  | rxtmo {t : State} (hm : m = .rxtmo) (h : RxtmoStep s t) : MsgStep m k s t

/-- Action `a`, as step `k` of a dispatch, does nothing but what `EdgeStep` lists. -/
def EdgeDoes (k : Nat) (a : Act) : Prop := ∀ s t, (a s).exit .edge k = some t → EdgeStep k s t

theorem edgeDoes_transfer {k : Nat} {a : Act} {e : State → BusEvent} {f : State → Flow}
    (he : ∀ s, isTransfer (e s) = true) (hk : 2 ≤ k)
    (ha : ∀ s, a s = if spiErrNow s then .ioErr (afterBus s [e s]) else f s) (hf : EdgeDoes k f) :
    EdgeDoes k a := by
  intro s t h
  rw [ha] at h
  split at h
  · obtain rfl := Option.some.inj h
    exact .fails (e s) (he s) hk
  · exact hf s t h

theorem edgeDoes_writeAct {k : Nat} {reg : Config.RegMap → ChipAddr} {val : State → Byte} (hk : 2 ≤ k) (hl : k < 15) :
    EdgeDoes k (writeAct reg val) := by
  refine edgeDoes_transfer (e := fun s => .write (reg s.cfg.regmap) (val s)) (fun _ => rfl) hk
    (writeAct_spec reg val id) fun s t h => ?_
  obtain rfl := Option.some.inj h
  exact .transfers (k + 1) _ s.work rfl hk ⟨by omega, hl⟩ rfl

theorem edgeDoes_readAct {k : Nat} {reg : Config.RegMap → ChipAddr} {store : Byte → State → State} (hk : 2 ≤ k)
    (hl : k < 15) (hu : ∀ v, WorkUpd (store v)) : EdgeDoes k (readAct reg store) := by
  refine edgeDoes_transfer (e := fun s => .read (reg s.cfg.regmap) (chipAnswer s)) (fun _ => rfl) hk
    (readAct_spec reg store) fun s t h => ?_
  obtain ⟨w, hw, hupd⟩ := hu (chipAnswer s) (afterBus s [.read (reg s.cfg.regmap) (chipAnswer s)])
  obtain rfl := Option.some.inj h
  rw [hupd]
  exact .transfers (k + 1) _ w rfl hk ⟨by omega, hl⟩ (congrArg List.length hw)

theorem edgeDoes_edgeConnectedAct : EdgeDoes 1 edgeConnectedAct := by
  intro s t h
  simp only [edgeConnectedAct] at h
  split at h <;> obtain rfl := Option.some.inj h
  · exact .connected rfl ‹_›
  · exact .ends

theorem edgeDoes_edgeBranchAct : EdgeDoes 3 edgeBranchAct := by
  intro s t h
  have hgoto (j : Nat) (hj : 1 ≤ j ∧ j ≤ 15) : EdgeStep 3 s (setPc (.run .edge j) s) :=
    .works j s.work (by omega) hj rfl
  simp only [edgeBranchAct] at h
  split at h
  · split at h <;> obtain rfl := Option.some.inj h
    · exact hgoto 4 (by omega)
    · exact hgoto 5 (by omega)
  · obtain rfl := Option.some.inj h
    exact hgoto 15 (by omega)

theorem edgeDoes_crcDropAct : EdgeDoes 4 crcDropAct := by
  refine edgeDoes_transfer (e := fun s => .write s.cfg.regmap.irqFlags (irqRxDone ||| irqCrcErr)) (fun _ => rfl)
    (by omega) (fun _ => rfl) fun s t h => ?_
  obtain rfl := Option.some.inj h
  exact .transfers 14 _ s.work rfl (by omega) (by omega) rfl

theorem edgeDoes_frameLengthAct : EdgeDoes 8 frameLengthAct := by
  intro s t h
  simp only [frameLengthAct] at h
  split at h <;> obtain rfl := Option.some.inj h
  · exact .works 13 s.work (by omega) (by omega) rfl
  · exact .works 9 { s.work with i := 0 } (by omega) (by omega) rfl

/-- One received byte, case by case (R172). -/
theorem rxFifoAct_spec (s : State) :
    rxFifoAct s =
      let v := chipAnswer s
      let t := afterBus s [.read s.cfg.regmap.fifo v]
      let w := { s.work with rxb := s.work.rxb.set s.work.i.toNat v, i := s.work.i + 1 }
      if spiErrNow s then .ioErr t
      else if s.work.i.toNat + 1 < s.work.n.toNat then .goto 9 (setWork w t)
      else .step (setWork w t) := rfl

theorem edgeDoes_rxFifoAct : EdgeDoes 9 rxFifoAct := by
  refine edgeDoes_transfer (e := fun s => .read s.cfg.regmap.fifo (chipAnswer s)) (fun _ => rfl) (by omega)
    rxFifoAct_spec fun s t h => ?_
  split at h <;> obtain rfl := Option.some.inj h
  · exact .transfers 9 _ _ rfl (by omega) (by omega) (by simp)
  · exact .transfers 10 _ _ rfl (by omega) (by omega) (by simp)

/-- The end of RxDone handling, case by case (R176). -/
theorem rxEndAct_spec (s : State) :
    rxEndAct s =
      if s.eng.mode = .rxSingle then
        if spiErrNow s then .ioErr (afterBus s [.write s.cfg.regmap.opMode (opModeByte .standby)])
        else .done (setMode .standby (afterBus s [.write s.cfg.regmap.opMode (opModeByte .standby)]))
      else .done s := rfl

theorem edgeDoes_rxEndAct : EdgeDoes 14 rxEndAct := by
  intro s t h
  rw [rxEndAct_spec] at h
  split at h
  · split at h <;> obtain rfl := Option.some.inj h
    · exact .fails _ rfl (by omega)
    · exact .endsWindow _ rfl (by omega)
  · obtain rfl := Option.some.inj h
    exact .ends

/-- The spurious clear, case by case (R173). -/
theorem spuriousAct_spec (s : State) :
    spuriousAct s =
      if s.work.irq = 0 then .done s
      else if spiErrNow s then .ioErr (afterBus s [.write s.cfg.regmap.irqFlags s.work.irq])
      else .done (afterBus s [.write s.cfg.regmap.irqFlags s.work.irq]) := rfl

theorem edgeDoes_spuriousAct : EdgeDoes 15 spuriousAct := by
  intro s t h
  rw [spuriousAct_spec] at h
  split at h
  · obtain rfl := Option.some.inj h
    exact .ends
  · split at h <;> obtain rfl := Option.some.inj h
    · exact .fails _ rfl (by omega)
    · exact .clears _ rfl (by omega)

theorem numbered_dispatchProg : Numbered EdgeDoes 1 dispatchProg := by
  have hread (f : Byte → Work → Work) (hf : ∀ v w, (f v w).rxb = w.rxb) (v : Byte) :
      WorkUpd fun s => { s with work := f v s.work } := fun s => ⟨f v s.work, hf v s.work, rfl⟩
  exact ⟨edgeDoes_edgeConnectedAct,
    edgeDoes_readAct (by omega) (by omega) (hread (fun v w => { w with irq := v }) fun _ _ => rfl),
    edgeDoes_edgeBranchAct, edgeDoes_crcDropAct,
    edgeDoes_readAct (by omega) (by omega) (hread (fun v w => { w with a := v }) fun _ _ => rfl),
    edgeDoes_writeAct (by omega) (by omega),
    edgeDoes_readAct (by omega) (by omega) (hread (fun v w => { w with n := v }) fun _ _ => rfl),
    edgeDoes_frameLengthAct, edgeDoes_rxFifoAct,
    edgeDoes_readAct (by omega) (by omega) (hread (fun v w => { w with rssi := v }) fun _ _ => rfl),
    edgeDoes_readAct (by omega) (by omega) (hread (fun v w => { w with snr := v }) fun _ _ => rfl),
    fun s t h => Option.some.inj h ▸ .emits rfl,
    edgeDoes_writeAct (by omega) (by omega), edgeDoes_rxEndAct, edgeDoes_spuriousAct, trivial⟩

/-- An RXTMO token's action, case by case (R144). -/
theorem rxTimeoutAct_spec (s : State) :
    rxTimeoutAct s =
      if s.rxs.fired then
        if spiErrNow s then .ioErr (afterBus (clearFired s) [.write s.cfg.regmap.opMode (opModeByte .standby)])
        else .done (setMode .standby (afterBus (clearFired s) [.write s.cfg.regmap.opMode (opModeByte .standby)]))
      else .done s := rfl

theorem rxtmoStep_of_exit {k : Nat} {s t : State} (h : (rxTimeoutAct s).exit .rxtmo k = some t) : RxtmoStep s t := by
  rw [rxTimeoutAct_spec] at h
  split at h
  · rename_i hf
    split at h <;> obtain rfl := Option.some.inj h
    · exact .fails _ rfl hf
    · exact .standby _ rfl hf
  · obtain rfl := Option.some.inj h
    exact .stale

/-! #### Every message -/

/-- The only action of a one-action program. -/
theorem stepAt_singleton {b a : Act} {k : Nat} (h : stepAt [b] k = some a) : a = b := by
  rcases k with _ | _ | k <;> simp_all [stepAt]

/-- Every action of a message does one of the things that `MsgStep` lists. -/
theorem msgStep_of_exit {m : Msg} {k : Nat} {a : Act} {s t : State} (ha : stepAt (msgProg s.cfg m) k = some a)
    (h : (a s).exit m k = some t) : MsgStep m k s t := by
  rcases m with w | ⟨_ | _, arg, sess⟩ | _ | _
  case hcmd =>
    rcases hd : decode w with ⟨⟨op⟩⟩ | i <;> simp only [msgProg, hd] at ha
    · obtain rfl := stepAt_singleton ha
      simp only [replyWith_spec] at h
      split at h
      · obtain rfl := Option.some.inj h
        exact .reserved w op rfl (by simp [msgInstr, hd]) ‹_›
      · cases h
    · exact .command i (by simp [msgInstr, hd]) (cmdStep_of_exit ha h)
  case ecall.receiveMode => exact .command _ rfl (cmdStep_of_exit (i := .receiveMode arg.toNat) ha h)
  case ecall.transmit => exact .command _ rfl (cmdStep_of_exit (i := .transmit arg.toNat) ha h)
  case edge => exact .edge rfl (numbered_dispatchProg.stepAt ha s t h)
  case rxtmo =>
    obtain rfl := stepAt_singleton ha
    exact .rxtmo rfl (rxtmoStep_of_exit h)

/-- An action of a message leaves the frame alone. -/
theorem Regular.framed_exit {a : Act} (ha : Regular a) {m : Msg} {k : Nat} {s t : State}
    (h : (a s).exit m k = some t) : Framed s t := by
  have hall := ha.frame s
  rcases hs : a s with u | ⟨j, u⟩ | _ | u | u | r <;> rw [hs] at h hall <;> simp only [Flow.exit] at h
  case hold | fault => cases h
  all_goals
    obtain rfl := Option.some.inj h
    exact Framed.trans hall (framed_setPc _ u)

/-- What the engine must keep, with each action taken as the step it makes. -/
theorem EngineKeeps.of_msgStep {I : State → Prop} (env : ∀ e s, I s → I { s with env := e })
    (taken : ∀ m rest s, s.eng.pc = .idle → s.inq = m :: rest → I s → I (take m rest s))
    (act : ∀ m k s t, s.eng.pc = .run m k → Framed s t → MsgStep m k s t → I s → I t)
    (ioErr : ∀ m s, s.eng.pc = .failed m → ioErrorReady (msgOpcode m) s = true → I s →
      I (ioErrorEffect (msgOpcode m) s)) : EngineKeeps I where
  env := env
  taken := taken
  act m k _ s t ha hpc hs ht :=
    act m k s t hpc (((regularProg_msgProg s.cfg m).regular ha).framed_exit ht) (msgStep_of_exit ha ht) hs
  ioErr := ioErr

end Sys2Proof.Machine
end

/-! ### What the other agents can do -/

section

namespace Sys2Proof.Machine

open Sys2Proof.Safety

/-! #### The time base -/

/-- A tick, field by field, by the parts of the tick (R110). -/
theorem timerTick_eq (s : State) :
    timerTick s = { s with
      eng := { s.eng with waitCnt := countDown s.eng.waitCnt }
      rxs := (tickRxSingle s).rxs
      inq := (tickRxSingle s).inq
      eseq := (tickEcho s).eseq
      tx := (tickTx s).tx } := by
  unfold timerTick tickTx tickRxSingle
  rcases hp : s.tx.pending <;> cases he : expires s.rxs.cnt <;> cases hq : s.rxs.queued <;>
    simp [tickEcho, tickWait, hp, he, hq]

/-- Everything a tick can do to the RX-single timer and INQ (R113). -/
theorem tickRxSingle_cases (s : State) :
    (expires s.rxs.cnt = false ∧ (tickRxSingle s).inq = s.inq ∧
      (tickRxSingle s).rxs = { s.rxs with cnt := countDown s.rxs.cnt }) ∨
    (expires s.rxs.cnt = true ∧ (tickRxSingle s).inq = (if s.rxs.queued then s.inq else s.inq ++ [.rxtmo]) ∧
      (tickRxSingle s).rxs = { cnt := countDown s.rxs.cnt, fired := true, queued := true }) := by
  unfold tickRxSingle
  cases he : expires s.rxs.cnt
  · exact .inl ⟨rfl, rfl, rfl⟩
  · cases hq : s.rxs.queued
    · exact .inr ⟨rfl, rfl, rfl⟩
    · exact .inr ⟨rfl, rfl, rfl⟩

/-- A tick leaves x[TXP] (R111). -/
theorem tickTx_pending (s : State) : (tickTx s).tx.pending = s.tx.pending := by
  unfold tickTx
  split <;> rfl

/-! #### The DIO0 detector -/

/-- Everything a detected edge can do (R107). -/
theorem routeEdge_cases (s : State) :
    (s.tx.pending = true ∧ routeEdge s = { s with tx := { s.tx with edge := true } }) ∨
    (s.dio.queued = true ∧ routeEdge s = s) ∨
    (s.dio.queued = false ∧ routeEdge s = { s with inq := s.inq ++ [.edge], dio := { s.dio with queued := true } }) := by
  unfold routeEdge
  split
  · exact .inl ⟨‹_›, rfl⟩
  · split
    · exact .inr (.inl ⟨‹_›, rfl⟩)
    · exact .inr (.inr ⟨by simpa using ‹¬s.dio.queued = true›, rfl⟩)

/-- The synchronizer's shift at one rising edge of `clk_i` (R107). -/
def shiftDio (level : Bool) (s : State) : State :=
  { s with dio := { s.dio with sync0 := level, sync1 := s.dio.sync0, prev := s.dio.sync0 } }

theorem clkTurn_eq (level : Bool) (s : State) :
    clkTurn level s =
      if s.dio.sync0 && !s.dio.prev && s.eng.handles then routeEdge (shiftDio level s) else shiftDio level s := rfl

theorem clkTurn_cases (level : Bool) (s : State) :
    clkTurn level s = routeEdge (shiftDio level s) ∨ clkTurn level s = shiftDio level s := by
  rw [clkTurn_eq]
  split
  · exact .inl rfl
  · exact .inr rfl

theorem edgeTurn_cases (s : State) : edgeTurn s = routeEdge s ∨ edgeTurn s = s := by
  unfold edgeTurn
  split
  · exact .inl rfl
  · exact .inr rfl

/-! #### The host -/

/-- Everything a host write can do (R24, R64, R66, R67). -/
theorem hostWrite_cases (a : BusAddr) (d : Word) (s : State) :
    (0x100 ≤ csrOffset a ∧ csrOffset a < 0x200 ∧
      hostWrite a d s = { s with txbuf := txStoreWord s.txbuf (csrOffset a) d }) ∨
    (∃ h, hostWrite a d s = { s with host := h }) ∨
    (∃ w, hcmdCount s.inq < s.cfg.cmdqDepth ∧ hostWrite a d s = { s with inq := s.inq ++ [.hcmd w] }) := by
  simp only [hostWrite]
  split
  · rename_i hwin
    exact .inl ⟨hwin.1, hwin.2, rfl⟩
  · right
    split
    case h_4 =>
      simp only [pushCommand]
      split
      · rename_i hroom
        exact .inr ⟨_, hroom, rfl⟩
      · exact .inl ⟨_, rfl⟩
    all_goals exact .inl ⟨_, rfl⟩

/-- Everything EVT_HDR's side effect can do (R69). -/
theorem popEvent_cases (s : State) :
    ∃ es cur, (es = s.evtq ∨ es = s.evtq.tail) ∧ popEvent s = { s with evtq := es, evtCur := cur } := by
  unfold popEvent
  split
  · exact ⟨s.evtq, none, .inl rfl, rfl⟩
  · rename_i e rest hq
    exact ⟨rest, some ⟨e, 0⟩, .inr (by rw [hq, List.tail_cons]), rfl⟩

/-- Everything EVT_DATA's side effect can do (R69). -/
theorem popEventByte_cases (s : State) : ∃ cur, popEventByte s = { s with evtCur := cur } := by
  unfold popEventByte
  split
  · exact ⟨s.evtCur, rfl⟩
  · split <;> exact ⟨_, rfl⟩

/-- Everything a host read can do: a queue loses its head, EVT_CUR changes, the data is returned (R67, R69). -/
theorem hostRead_cases (a : BusAddr) (s : State) :
    ∃ q es cur v, (q = s.rspq ∨ q = s.rspq.tail) ∧ (es = s.evtq ∨ es = s.evtq.tail) ∧
      hostRead a s = { s with rspq := q, evtq := es, evtCur := cur, host := { s.host with rdata := v } } := by
  simp only [hostRead, csrReadEffect]
  split
  · exact ⟨_, _, _, _, .inr rfl, .inl rfl, rfl⟩
  · obtain ⟨es, cur, hes, hpop⟩ := popEvent_cases s
    rw [hpop]
    exact ⟨_, es, cur, _, .inl rfl, hes, rfl⟩
  · obtain ⟨cur, hpop⟩ := popEventByte_cases s
    rw [hpop]
    exact ⟨_, _, cur, _, .inl rfl, .inl rfl, rfl⟩
  · exact ⟨_, _, _, _, .inl rfl, .inl rfl, rfl⟩

/-! #### The echo sequencer -/

/-- What is open to the sequencer's choice (R190). -/
theorem echoOpen_cases (pick : Config.EchoPick) (s : State) :
    echoOpen pick s = armExpiry s ∨ echoOpen pick s = echoExpiry s ∨ echoOpen pick s = handleEqHead s := by
  have hfirst : echoOpen .arm s = armExpiry s ∨ echoOpen .arm s = echoExpiry s ∨ echoOpen .arm s = handleEqHead s := by
    simp only [echoOpen]
    split
    · exact .inl rfl
    · split
      · exact .inr (.inl rfl)
      · exact .inr (.inr rfl)
  have hecho : echoOpen .echo s = if s.eseq.echoFired then echoExpiry s else echoOpen .arm s := rfl
  have hevent : echoOpen .event s = if s.eq.isEmpty then echoOpen .arm s else handleEqHead s := rfl
  cases pick
  · exact hfirst
  · rw [hecho]
    split
    · exact .inr (.inl rfl)
    · exact hfirst
  · rw [hevent]
    split
    · exact hfirst
    · exact .inr (.inr rfl)

/-- Everything a step of the sequencer can do (R190, R195). -/
theorem echoStep_cases (pick : Config.EchoPick) (s : State) :
    echoStep pick s = s ∨
    (s.eseq.await ≠ .none ∧ s.rpl.valid = true ∧ echoStep pick s = consumeReply s) ∨
    (s.eseq.await = .none ∧ s.ectl.run = true ∧ s.eseq.seen ≠ s.ectl.session ∧ echoStep pick s = applyStart s) ∨
    (s.eseq.await = .none ∧ s.ectl.run = false ∧ echoStep pick s = applyStop s) ∨
    (s.eseq.await = .none ∧ noControlPending s = true ∧
      (echoStep pick s = armExpiry s ∨ echoStep pick s = echoExpiry s ∨ echoStep pick s = handleEqHead s)) := by
  unfold echoStep
  split
  · split
    · exact .inr (.inl ⟨‹_›, ‹_›, rfl⟩)
    · exact .inl rfl
  · rename_i hawait
    rw [ne_eq, not_not] at hawait
    right; right
    split
    · rename_i hstart
      simp only [Bool.and_eq_true, bne_iff_ne] at hstart
      exact .inl ⟨hawait, hstart.1, hstart.2, rfl⟩
    · split
      · rename_i hstop
        simp only [Bool.and_eq_true, Bool.not_eq_true'] at hstop
        exact .inr (.inl ⟨hawait, hstop.1, rfl⟩)
      · rename_i hstart hstop
        refine .inr (.inr ⟨hawait, ?_, ?_⟩)
        · simp only [noControlPending, hstart, hstop, Bool.not_false, Bool.and_self]
        · exact echoOpen_cases pick s

/-- Everything the handling of EQ's head can do (R196, R198, R204). -/
theorem handleEqHead_cases (s : State) :
    handleEqHead s = s ∨
    ∃ x rest, s.eq = x :: rest ∧
      (handleEqHead s = { s with eq := rest } ∨
       (s.eseq.state ≠ .idle ∧ x.session = s.eseq.seen ∧ x.kind = .rxFrame ∧
         handleEqHead s = onRxFrame x.bytes { s with eq := rest }) ∨
       (s.eseq.state ≠ .idle ∧ x.session = s.eseq.seen ∧ x.kind ≠ .rxFrame ∧
         handleEqHead s = onTxEvent { s with eq := rest })) := by
  rcases hq : s.eq with _ | ⟨x, rest⟩
  · exact .inl (by simp only [handleEqHead, hq])
  · refine .inr ⟨x, rest, rfl, ?_⟩
    simp only [handleEqHead, hq]
    split
    · exact .inl rfl
    · rename_i hkeep
      rw [not_or, not_not] at hkeep
      right
      rcases hk : x.kind
      · exact .inl ⟨hkeep.1, hkeep.2, rfl, rfl⟩
      · exact .inr ⟨hkeep.1, hkeep.2, by simp, rfl⟩
      · exact .inr ⟨hkeep.1, hkeep.2, by simp, rfl⟩

/-- ArmRx expiry (R199): a receive call is posted where the sequencer listens, and nothing happens elsewhere. -/
theorem armExpiry_cases (s : State) :
    (s.eseq.state = .listening ∧ armExpiry s = { s with
      inq := s.inq ++ [.ecall .receiveMode 0 s.eseq.seen]
      eseq := { s.eseq with armFired := false, callSess := s.eseq.seen, await := .recv } }) ∨
    armExpiry s = { s with eseq := { s.eseq with armFired := false } } := by
  unfold armExpiry
  split
  · exact .inl ⟨‹_›, rfl⟩
  · exact .inr rfl

/-- Echo expiry (R200): the echo is sent where one is due, and nothing happens elsewhere. -/
theorem echoExpiry_cases (s : State) :
    (s.eseq.state = .echoing ∧ echoExpiry s = { s with
      inq := s.inq ++ [.ecall .transmit (s.eseq.len.setWidth 32) s.eseq.seen]
      eseq := { s.eseq with
        echoFired := false, txc := satInc s.eseq.txc, callSess := s.eseq.seen, await := .xmit } }) ∨
    echoExpiry s = { s with eseq := { s.eseq with echoFired := false } } := by
  unfold echoExpiry
  split
  · exact .inl ⟨‹_›, rfl⟩
  · exact .inr rfl

end Sys2Proof.Machine
end

/-! ### What the other agents leave alone -/

section

namespace Sys2Proof.Machine

open Sys2Proof.Safety

/-- The host, the time base, the detector and the sequencer leave these of the engine alone (the first clause of
`Obligations.OtherAgentsLeaveTheEngineAlone`). -/
structure LeavesEngine (s t : State) : Prop where
  bus : t.bus = s.bus := by rfl
  pins : t.pins = s.pins := by rfl
  cfg : t.cfg = s.cfg := by rfl
  eng : { t.eng with waitCnt := s.eng.waitCnt } = s.eng := by rfl
  radio : t.radio = s.radio := by rfl
  subs : t.subs = s.subs := by rfl
  ectl : t.ectl = s.ectl := by rfl
  work : t.work = s.work := by rfl
  pending : t.tx.pending = s.tx.pending := by rfl
  env : t.env = s.env := by rfl

namespace LeavesEngine
variable {s t : State}

theorem pc (h : LeavesEngine s t) : t.eng.pc = s.eng.pc :=
  (congrArg Engine.pc h.eng :)
theorem origin (h : LeavesEngine s t) : t.eng.origin = s.eng.origin :=
  (congrArg Engine.origin h.eng :)
theorem handles (h : LeavesEngine s t) : t.eng.handles = s.eng.handles :=
  (congrArg Engine.handles h.eng :)
theorem connected (h : LeavesEngine s t) : t.eng.connected = s.eng.connected :=
  (congrArg Engine.connected h.eng :)
theorem mode (h : LeavesEngine s t) : t.eng.mode = s.eng.mode :=
  (congrArg Engine.mode h.eng :)

end LeavesEngine

theorem leavesEngine_hostWrite (a : BusAddr) (d : Word) (s : State) : LeavesEngine s (hostWrite a d s) := by
  rcases hostWrite_cases a d s with ⟨-, -, h⟩ | ⟨_, h⟩ | ⟨_, -, h⟩ <;> rw [h] <;> exact {}

theorem leavesEngine_hostRead (a : BusAddr) (s : State) : LeavesEngine s (hostRead a s) := by
  obtain ⟨_, _, _, _, -, -, h⟩ := hostRead_cases a s
  rw [h]
  exact {}

theorem leavesEngine_timerTick (s : State) : LeavesEngine s (timerTick s) := by
  rw [timerTick_eq]
  exact { pending := tickTx_pending s }

theorem leavesEngine_routeEdge (s : State) : LeavesEngine s (routeEdge s) := by
  rcases routeEdge_cases s with ⟨-, h⟩ | ⟨-, h⟩ | ⟨-, h⟩ <;> rw [h] <;> exact {}

theorem leavesEngine_edgeTurn (s : State) : LeavesEngine s (edgeTurn s) := by
  rcases edgeTurn_cases s with h | h <;> rw [h]
  · exact leavesEngine_routeEdge s
  · exact {}

theorem leavesEngine_clkTurn (b : Bool) (s : State) : LeavesEngine s (clkTurn b s) := by
  rcases clkTurn_cases b s with h | h <;> rw [h]
  · obtain ⟨hbus, hpins, hcfg, heng, hradio, hsubs, hectl, hwork, hpending, henv⟩ :=
      leavesEngine_routeEdge (shiftDio b s)
    exact ⟨hbus, hpins, hcfg, heng, hradio, hsubs, hectl, hwork, hpending, henv⟩
  · exact {}

/-- A consumed reply, field by field: only RPL and the sequencer's registers change (R201 to R203). -/
theorem consumeReply_eq (s : State) :
    consumeReply s = { s with rpl := { s.rpl with valid := false }, eseq := (consumeReply s).eseq } := by
  unfold consumeReply
  split
  · split <;> rfl
  · rfl

/-- What the sequencer never changes (R190 to R204), from `s` to `t`. -/
structure LeavesHostSide (s t : State) : Prop extends LeavesEngine s t where
  txbuf : t.txbuf = s.txbuf := by rfl
  rspq : t.rspq = s.rspq := by rfl
  evtq : t.evtq = s.evtq := by rfl
  evtCur : t.evtCur = s.evtCur := by rfl
  host : t.host = s.host := by rfl

theorem leavesHostSide_handleEqHead (s : State) : LeavesHostSide s (handleEqHead s) := by
  rcases handleEqHead_cases s with h | ⟨x, rest, -, h | ⟨-, -, -, h⟩ | ⟨-, -, -, h⟩⟩ <;> rw [h]
  · exact {}
  · exact {}
  · unfold onRxFrame
    split <;> exact {}
  · unfold onTxEvent
    split <;> exact {}

theorem leavesHostSide_echoStep (pick : Config.EchoPick) (s : State) : LeavesHostSide s (echoStep pick s) := by
  rcases echoStep_cases pick s with h | ⟨-, -, h⟩ | ⟨-, -, -, h⟩ | ⟨-, -, h⟩ | ⟨-, -, h | h | h⟩ <;> rw [h]
  · exact {}
  · rw [consumeReply_eq]
    exact {}
  · exact {}
  · exact {}
  · unfold armExpiry
    split <;> exact {}
  · unfold echoExpiry
    split <;> exact {}
  · exact leavesHostSide_handleEqHead s

theorem leavesHostSide_timerTick (s : State) : LeavesHostSide s (timerTick s) := by
  have h := leavesEngine_timerTick s
  rw [timerTick_eq] at h ⊢
  exact { h with }

theorem leavesHostSide_routeEdge (s : State) : LeavesHostSide s (routeEdge s) := by
  rcases routeEdge_cases s with ⟨-, h⟩ | ⟨-, h⟩ | ⟨-, h⟩ <;> rw [h] <;> exact {}

/-- An invariant that looks at nothing but what the other agents leave alone is the engine's to keep. -/
theorem StepKeeps.of_engine {I : State → Prop} (heng : EngineKeeps I) (hleaves : ∀ s t, LeavesEngine s t → I s → I t)
    (hreset : ∀ s, I s → I (blockReset s)) : StepKeeps I where
  toEngineKeeps := heng
  tick s := hleaves s _ (leavesEngine_timerTick s)
  echo p s := hleaves s _ (leavesHostSide_echoStep p s).toLeavesEngine
  edge s := hleaves s _ (leavesEngine_edgeTurn s)
  clk b s := hleaves s _ (leavesEngine_clkTurn b s)
  hostWrite a d s := hleaves s _ (leavesEngine_hostWrite a d s)
  hostRead a s := hleaves s _ (leavesEngine_hostRead a s)
  reset := hreset

end Sys2Proof.Machine

namespace Sys2Proof.Proofs

open Sys2Proof.Machine Sys2Proof.Safety

theorem csrOffset_and (a : BusAddr) : csrOffset (a &&& 0x3FC) = csrOffset a := by
  simp [csrOffset, BitVec.and_assoc]

/-- Settles O42, agent by agent. -/
theorem otherAgentsLeaveTheEngineAlone : Obligations.OtherAgentsLeaveTheEngineAlone := by
  have hclk (b : Bool) (s : State) : LeavesHostSide s (clkTurn b s) := by
    have hshift := leavesEngine_clkTurn b s
    rcases clkTurn_cases b s with h | h <;> rw [h] at hshift ⊢
    · obtain ⟨-, htx, hrsp, hevt, hcur, hhost⟩ := leavesHostSide_routeEdge (shiftDio b s)
      exact { hshift with txbuf := htx, rspq := hrsp, evtq := hevt, evtCur := hcur, host := hhost }
    · exact { hshift with }
  have hedge (s : State) : LeavesHostSide s (edgeTurn s) := by
    rcases edgeTurn_cases s with h | h <;> rw [h]
    · exact leavesHostSide_routeEdge s
    · exact {}
  refine ⟨?_, ?_, ?_, ?_⟩
  · intro s t b a d p ht
    have h : LeavesEngine s t := by
      rcases ht with rfl | rfl | rfl | rfl | rfl | rfl
      · exact leavesEngine_hostWrite a d s
      · exact leavesEngine_hostRead a s
      · exact leavesEngine_timerTick s
      · exact leavesEngine_edgeTurn s
      · exact leavesEngine_clkTurn b s
      · exact (leavesHostSide_echoStep p s).toLeavesEngine
    exact ⟨h.bus, h.pins, h.cfg, h.eng, h.radio, h.subs, h.ectl, h.work, h.pending, h.env⟩
  · intro s t b p ht
    have h : LeavesHostSide s t := by
      rcases ht with rfl | rfl | rfl | rfl
      · exact leavesHostSide_timerTick s
      · exact hedge s
      · exact hclk b s
      · exact leavesHostSide_echoStep p s
    exact ⟨h.txbuf, h.rspq, h.evtq, h.evtCur, h.host⟩
  · intro s t b a d ht
    have hroute (u : State) : (routeEdge u).eq = u.eq ∧ (routeEdge u).rpl = u.rpl ∧ (routeEdge u).eseq = u.eseq := by
      rcases routeEdge_cases u with ⟨-, h⟩ | ⟨-, h⟩ | ⟨-, h⟩ <;> rw [h] <;> exact ⟨rfl, rfl, rfl⟩
    rcases ht with rfl | rfl | rfl | rfl | rfl
    · rcases hostWrite_cases a d s with ⟨-, -, h⟩ | ⟨_, h⟩ | ⟨_, -, h⟩ <;> rw [h] <;>
        exact ⟨rfl, rfl, rfl, rfl, rfl, rfl, rfl⟩
    · obtain ⟨_, _, _, _, -, -, h⟩ := hostRead_cases a s
      rw [h]
      exact ⟨rfl, rfl, rfl, rfl, rfl, rfl, rfl⟩
    · rw [timerTick_eq]
      exact ⟨rfl, rfl, rfl, rfl, rfl, rfl, rfl⟩
    · rcases edgeTurn_cases s with h | h <;> rw [h]
      · obtain ⟨hq, hr, he⟩ := hroute s
        rw [hq, hr, he]
        exact ⟨rfl, rfl, rfl, rfl, rfl, rfl, rfl⟩
      · exact ⟨rfl, rfl, rfl, rfl, rfl, rfl, rfl⟩
    · rcases clkTurn_cases b s with h | h <;> rw [h]
      · obtain ⟨hq, hr, he⟩ := hroute (shiftDio b s)
        rw [hq, hr, he]
        exact ⟨rfl, rfl, rfl, rfl, rfl, rfl, rfl⟩
      · exact ⟨rfl, rfl, rfl, rfl, rfl, rfl, rfl⟩
  · intro s a d
    constructor
    · simp only [hostWrite, csrOffset_and]
    · simp only [hostRead, csrOffset_and]

end Sys2Proof.Proofs
end

/-! ### What a Reply's updates and the IoError step leave alone -/

section

namespace Sys2Proof.Machine

open Sys2Proof.Safety

theorem framed_shadow (f : RadioCfg → RadioCfg) (s : State) : Framed s { s with radio := f s.radio } := {}

/-- What is atomic with a Reply leaves the frame alone, and the queues of the replies. -/
theorem ReplyUpd.framed {i : Instr} {k : Nat} {s u : State} (h : ReplyUpd i k s u) :
    Framed s u ∧ u.rspq = s.rspq ∧ u.rpl = s.rpl := by
  cases h with
  | nothing => exact ⟨.refl s, rfl, rfl⟩
  | rejects => exact ⟨(framed_closeHandles s).trans {}, rfl, rfl⟩
  | connects f => exact ⟨(regularUpd_beginDone f).frame s, rfl, rfl⟩
  | shadows f => exact ⟨framed_shadow f s, rfl, rfl⟩
  | resets => exact ⟨regularUpd_resetDone.frame s, rfl, rfl⟩
  | disconnects =>
    exact ⟨regularUpd_disconnected.frame s, by simp [disconnected], by simp [disconnected]⟩
  | subscribes id' on => exact ⟨(regularUpd_setSub id' on).frame s, rfl, rfl⟩
  | sends n st kind => exact ⟨framed_emit _ s, by simp, by simp⟩
  | starts => exact ⟨regularUpd_echoStarted.frame s, rfl, rfl⟩
  | stops =>
    refine ⟨regularUpd_echoStopped.frame s, ?_, ?_⟩ <;> unfold echoStopped <;> split <;> rfl

theorem ReplyUpd.canReply {i : Instr} {k : Nat} {s u : State} (h : ReplyUpd i k s u) :
    Machine.canReply u = Machine.canReply s :=
  canReply_congr h.framed.1.origin h.framed.2.1 h.framed.1.cfg

/-- Everything the body of the IoError step can do after the link is dropped (R226). -/
theorem ioErrorBody_cases (op : Option Byte) (s : State) :
    (op = none ∧ ioErrorBody op s = dropLink s) ∨
    ∃ o, op = some o ∧
      ((s.tx.pending = false ∧ ioErrorBody op s = respond o .ioError 0 (dropLink s)) ∨
       (s.tx.pending = true ∧ ioErrorBody op s =
          emit (txEvent .txError .ioError (fromEcho s)) (respond o .ioError 0 (dropLink s)))) := by
  rcases op with _ | o
  · exact .inl ⟨rfl, rfl⟩
  · refine .inr ⟨o, rfl, ?_⟩
    cases hp : s.tx.pending
    · exact .inl ⟨rfl, by simp [ioErrorBody, hp]⟩
    · exact .inr ⟨rfl, by simp [ioErrorBody, hp]⟩

/-- The IoError step of a command has room for its response. -/
theorem canReply_dropLink {o : Byte} {s : State} (h : ioErrorReady (some o) s = true) :
    canReply (dropLink s) = true := by
  have hroom : canReply s = true := h
  rw [← hroom]
  refine canReply_congr (regularUpd_dropLink.frame s).origin ?_ (regularUpd_dropLink.frame s).cfg
  simp [dropLink]

end Sys2Proof.Machine
end

/-! ### Storage: queues, buffers and TXBUF -/

section

namespace Sys2Proof.Proofs

open Sys2Proof.Machine Sys2Proof.Safety

theorem storageOk_closeIfOpen {s : State} (h : StorageOk s) : StorageOk (closeIfOpen s) := by
  unfold closeIfOpen
  split <;> exact h

theorem storageOk_respond {op : Byte} {st : Status} {v : Half} {s : State} (hroom : canReply s = true)
    (h : StorageOk s) : StorageOk (respond op st v s) := by
  obtain ⟨hcfg, htx, hinq, hrsp, hrest⟩ := h
  rcases ho : s.eng.origin with _ | sess
  · have hlt : s.rspq.length < s.cfg.rspqDepth := by simpa [canReply, ho] using hroom
    rw [respond_toHost op st v s ho]
    exact ⟨hcfg, htx, hinq, by simpa using hlt, hrest⟩
  · rw [respond_toCall op st v s sess ho]
    exact ⟨hcfg, htx, hinq, hrsp, hrest⟩

theorem storageOk_postEvt (e : Event) {s : State} (h : StorageOk s) : StorageOk (postEvt e s) := by
  obtain ⟨hcfg, htx, hinq, hrsp, hevt, heq, hlast, hmask, hrest⟩ := h
  rcases postEvt_cases e s with ⟨-, he⟩ | ⟨hsub, hroom, he⟩ | ⟨-, -, he⟩ <;> rw [he]
  · exact ⟨hcfg, htx, hinq, hrsp, hevt, heq, hlast, hmask, hrest⟩
  · refine ⟨hcfg, htx, hinq, hrsp, by simpa using hroom, heq, hlast, ?_, hrest⟩
    intro r hr
    rcases List.mem_append.mp hr with hr | hr
    · exact hmask r hr
    · rw [List.mem_singleton.mp hr]
      exact hsub
  · exact ⟨hcfg, htx, hinq, hrsp, hevt, heq, hlast, hmask, hrest⟩

/-- A full EQ keeps its last place for a TX entry, since a frame needs room for two (R197). -/
theorem storageOk_postEq (e : Event) {s : State} (h : StorageOk s) : StorageOk (postEq e s) := by
  obtain ⟨hcfg, htx, hinq, hrsp, hevt, heq, hlast, hmask, hrest⟩ := h
  have hadd {q : List EqEntry} {x : EqEntry} (hk : x.kind ≠ .rxFrame) (hq : q.length + 1 ≤ s.cfg.eqDepth) :
      StorageOk { s with eq := q ++ [x] } :=
    ⟨hcfg, htx, hinq, hrsp, hevt, by simpa using hq, fun _ => ⟨x, by simp, hk⟩, hmask, hrest⟩
  rcases postEq_cases e s with ⟨-, hroom, he⟩ | ⟨-, -, he⟩ | ⟨hk, hroom, he⟩ | ⟨hk, hfull, he⟩ <;> rw [he]
  · refine ⟨hcfg, htx, hinq, hrsp, hevt, ?_, fun hfull => ?_, hmask, hrest⟩
    · simpa using (by omega : s.eq.length + 1 ≤ s.cfg.eqDepth)
    · have hlen : s.eq.length + 1 = s.cfg.eqDepth := by simpa using hfull
      omega
  · exact ⟨hcfg, htx, hinq, hrsp, hevt, heq, hlast, hmask, hrest⟩
  · exact hadd hk hroom
  · have hfull : s.eq.length = s.cfg.eqDepth := le_antisymm heq hfull
    exact hadd hk (by rw [dropNewestTx_length s.eq (hlast hfull)]; exact heq)

theorem storageOk_emit (e : Event) {s : State} (h : StorageOk s) : StorageOk (emit e s) := by
  rw [emit_spec]
  split
  · exact storageOk_postEq e (storageOk_postEvt e h)
  · exact storageOk_postEvt e h

theorem storageOk_replyUpd {i : Instr} {k : Nat} {s u : State} (hu : ReplyUpd i k s u) (h : StorageOk s) :
    StorageOk u := by
  cases hu with
  | disconnects => exact storageOk_closeIfOpen h
  | sends n st kind => exact storageOk_emit _ h
  | stops =>
    unfold echoStopped
    split <;> exact h
  | _ => exact h

/-- Every atomic action of a command keeps the storage. -/
theorem storageOk_cmdStep {c : Config.Params} {i : Instr} {m : Msg} {k : Nat} {s t : State}
    (ht : CmdStep c i m k s t) (h : StorageOk s) : StorageOk t := by
  obtain ⟨hcfg, htx, hinq, hrsp, hevt, heq, hlast, hmask, hpfx, hrxb, hbuf⟩ := h
  cases ht with
  | replies op st v u hroom hu =>
    exact storageOk_respond (hu.canReply.trans hroom)
      (storageOk_replyUpd hu ⟨hcfg, htx, hinq, hrsp, hevt, heq, hlast, hmask, hpfx, hrxb, hbuf⟩)
  | works j w hm hw | transfers j e w he hl hm hw | polls n j e w hi hk hj he hw =>
    exact ⟨hcfg, htx, hinq, hrsp, hevt, heq, hlast, hmask, hpfx, (congrArg List.length hw).trans hrxb, hbuf⟩
  | copies lp ld delay plen j x b w hi hm hw =>
    exact ⟨hcfg, htx, hinq, hrsp, hevt, heq, hlast, hmask, List.length_set.trans hpfx,
      (congrArg List.length hw).trans hrxb, hbuf⟩
  | _ => exact ⟨hcfg, htx, hinq, hrsp, hevt, heq, hlast, hmask, hpfx, hrxb, hbuf⟩

theorem storageOk_msgStep {m : Msg} {k : Nat} {s t : State} (ht : MsgStep m k s t) (h : StorageOk s) :
    StorageOk t := by
  obtain ⟨i, -, ht⟩ | ⟨w, op, -, -, hroom⟩ | ⟨-, ht⟩ | ⟨-, ht⟩ := ht
  · exact storageOk_cmdStep ht h
  · exact storageOk_respond hroom h
  · cases ht with
    | emits => exact storageOk_emit _ h
    | works j w hk hj hw | transfers j e w he hk hj hw =>
      obtain ⟨hcfg, htx, hinq, hrsp, hevt, heq, hlast, hmask, hpfx, hrxb, hbuf⟩ := h
      exact ⟨hcfg, htx, hinq, hrsp, hevt, heq, hlast, hmask, hpfx, hw.trans hrxb, hbuf⟩
    | _ => exact h
  · cases ht <;> exact h

theorem storageOk_ioErrorEffect {op : Option Byte} {s : State} (hready : ioErrorReady op s = true)
    (h : StorageOk s) : StorageOk (ioErrorEffect op s) := by
  have hdrop : StorageOk (dropLink s) := storageOk_closeIfOpen h
  suffices StorageOk (ioErrorBody op s) by
    rw [ioErrorEffect_eq]
    exact this
  rcases ioErrorBody_cases op s with ⟨-, hb⟩ | ⟨o, rfl, ⟨-, hb⟩ | ⟨-, hb⟩⟩ <;> rw [hb]
  · exact hdrop
  · exact storageOk_respond (canReply_dropLink hready) hdrop
  · exact storageOk_emit _ (storageOk_respond (canReply_dropLink hready) hdrop)

/-! #### The other agents -/

theorem hcmdCount_append_token (q : List Msg) {m : Msg} (h : ∀ w, m ≠ .hcmd w) :
    hcmdCount (q ++ [m]) = hcmdCount q := by
  cases m <;> simp_all [hcmdCount]

/-- INQ may take a message that is no host command. -/
theorem storageOk_append {m : Msg} {s : State} (hm : ∀ w, m ≠ .hcmd w) (h : StorageOk s) :
    StorageOk { s with inq := s.inq ++ [m] } := by
  obtain ⟨hcfg, htx, hinq, hrest⟩ := h
  exact ⟨hcfg, htx, by rwa [hcmdCount_append_token _ hm], hrest⟩

theorem length_echoBytes (c : EchoCtl) (d old : List Byte) (h : old.length = 255) :
    (echoBytes c d old).length = 255 := by
  simp only [echoBytes, List.length_append, List.length_map, List.length_range, List.length_drop, h]
  omega

theorem storageOk_eqTail {x : EqEntry} {rest : List EqEntry} {s : State} (hq : s.eq = x :: rest) (h : StorageOk s) :
    StorageOk { s with eq := rest } := by
  obtain ⟨hcfg, htx, hinq, hrsp, hevt, heq, -, hrest⟩ := h
  rw [hq, List.length_cons] at heq
  exact ⟨hcfg, htx, hinq, hrsp, hevt, (by omega : rest.length ≤ s.cfg.eqDepth),
    fun hfull => absurd hfull (by simp only; omega), hrest⟩

theorem storageOk_handleEqHead {s : State} (h : StorageOk s) : StorageOk (handleEqHead s) := by
  rcases handleEqHead_cases s with he | ⟨x, rest, hq, he | ⟨-, -, -, he⟩ | ⟨-, -, -, he⟩⟩ <;> rw [he]
  · exact h
  · exact storageOk_eqTail hq h
  · obtain ⟨hcfg, htx, hinq, hrsp, hevt, heq, hlast, hmask, hpfx, hrxb, hbuf⟩ := storageOk_eqTail hq h
    unfold onRxFrame
    split
    · exact ⟨hcfg, htx, hinq, hrsp, hevt, heq, hlast, hmask, hpfx, hrxb, length_echoBytes _ _ _ hbuf⟩
    · exact ⟨hcfg, htx, hinq, hrsp, hevt, heq, hlast, hmask, hpfx, hrxb, hbuf⟩
  · unfold onTxEvent
    have htail := storageOk_eqTail hq h
    split <;> exact htail

theorem consumeReply_buf (s : State) : (consumeReply s).eseq.buf = s.eseq.buf := by
  unfold consumeReply onRecvReply onXmitReply loadArm
  split
  · split
    · rfl
    · split <;> rfl
    · split <;> rfl
  · rfl

theorem storageOk_echoStep (pick : Config.EchoPick) {s : State} (h : StorageOk s) : StorageOk (echoStep pick s) := by
  rcases echoStep_cases pick s with he | ⟨-, -, he⟩ | ⟨-, -, -, he⟩ | ⟨-, -, he⟩ | ⟨-, -, he | he | he⟩ <;> rw [he]
  · exact h
  · obtain ⟨hcfg, htx, hinq, hrsp, hevt, heq, hlast, hmask, hpfx, hrxb, hbuf⟩ := h
    rw [consumeReply_eq]
    exact ⟨hcfg, htx, hinq, hrsp, hevt, heq, hlast, hmask, hpfx, hrxb, (congrArg _ (consumeReply_buf s)).trans hbuf⟩
  · exact h
  · exact h
  · unfold armExpiry
    split
    · exact storageOk_append (by simp) h
    · exact h
  · unfold echoExpiry
    split
    · exact storageOk_append (by simp) h
    · exact h
  · exact storageOk_handleEqHead h

theorem storageOk_timerTick {s : State} (h : StorageOk s) : StorageOk (timerTick s) := by
  have hinq : StorageOk { s with inq := (tickRxSingle s).inq } := by
    rcases tickRxSingle_cases s with ⟨-, hq, -⟩ | ⟨-, hq, -⟩ <;> rw [hq]
    · exact h
    · split
      · exact h
      · exact storageOk_append (by simp) h
  rw [timerTick_eq]
  exact hinq

theorem storageOk_routeEdge {s : State} (h : StorageOk s) : StorageOk (routeEdge s) := by
  rcases routeEdge_cases s with ⟨-, he⟩ | ⟨-, he⟩ | ⟨-, he⟩ <;> rw [he]
  · exact h
  · exact h
  · exact storageOk_append (by simp) h

theorem storageOk_hostWrite (a : BusAddr) (d : Word) {s : State} (h : StorageOk s) :
    StorageOk (hostWrite a d s) := by
  obtain ⟨hcfg, htx, hinq, hrest⟩ := h
  have hwf := hostWrite_txbuf_wf a d s htx
  rcases hostWrite_cases a d s with ⟨-, -, he⟩ | ⟨h', he⟩ | ⟨w, hroom, he⟩ <;> rw [he] at hwf ⊢
  · exact ⟨hcfg, hwf, hinq, hrest⟩
  · exact ⟨hcfg, htx, hinq, hrest⟩
  · exact ⟨hcfg, htx, by simpa [hcmdCount] using hroom, hrest⟩

theorem storageOk_hostRead (a : BusAddr) {s : State} (h : StorageOk s) : StorageOk (hostRead a s) := by
  obtain ⟨hcfg, htx, hinq, hrsp, hevt, heq, hlast, hmask, hrest⟩ := h
  obtain ⟨q, es, cur, v, hq, hes, he⟩ := hostRead_cases a s
  have hql : q.length ≤ s.rspq.length := by rcases hq with rfl | rfl <;> simp
  have hel : es.length ≤ s.evtq.length := by rcases hes with rfl | rfl <;> simp
  have hsub : ∀ r ∈ es, r ∈ s.evtq := by
    rcases hes with rfl | rfl
    · exact fun _ hr => hr
    · exact fun _ hr => List.mem_of_mem_tail hr
  rw [he]
  exact ⟨hcfg, htx, hinq, hql.trans hrsp, hel.trans hevt, heq, hlast, fun r hr => hmask r (hsub r hr), hrest⟩

theorem length_resetPrefix (n : Nat) : (resetPrefix n).length = n := by
  simp only [resetPrefix, bind_pure_comp, List.map_eq_map, List.length_take, List.length_map, List.length_append,
    List.length_replicate]
  omega

theorem storageOk_blockReset {s : State} (h : StorageOk s) : StorageOk (blockReset s) := by
  obtain ⟨hcfg, -, -, -, -, -, -, -, -, hrxb, hbuf⟩ := h
  have hdepth : 2 ≤ s.cfg.eqDepth := by
    simp only [Config.Params.legal, Bool.and_eq_true, decide_eq_true_eq] at hcfg
    omega
  have hroom : ¬ 0 = s.cfg.eqDepth := by omega
  exact ⟨hcfg, rfl, Nat.zero_le _, Nat.zero_le _, Nat.zero_le _, Nat.zero_le _, fun hfull => absurd hfull hroom,
    List.forall_mem_nil _, length_resetPrefix _, hrxb, hbuf⟩

theorem storageOk_take {m : Msg} {rest : List Msg} {s : State} (hq : s.inq = m :: rest) (h : StorageOk s) :
    StorageOk (take m rest s) := by
  obtain ⟨hcfg, htx, hinq, hrest⟩ := h
  have hle : hcmdCount rest ≤ hcmdCount s.inq := by
    rw [hq]
    exact (List.sublist_cons_self m rest).countP_le
  have hrest' : hcmdCount rest ≤ s.cfg.cmdqDepth := hle.trans hinq
  cases m <;> exact ⟨hcfg, htx, hrest', hrest⟩

theorem storageOk_stepKeeps : StepKeeps StorageOk where
  toEngineKeeps := .of_msgStep (fun _ _ h => h) (fun _ _ _ _ hq h => storageOk_take hq h)
    (fun _ _ _ _ _ _ ht h => storageOk_msgStep ht h) (fun _ _ _ hr h => storageOk_ioErrorEffect hr h)
  tick _ h := storageOk_timerTick h
  echo p _ h := storageOk_echoStep p h
  edge s h := by
    rcases edgeTurn_cases s with he | he <;> rw [he]
    · exact storageOk_routeEdge h
    · exact h
  clk b s h := by
    rcases clkTurn_cases b s with he | he <;> rw [he]
    · exact storageOk_routeEdge (s := shiftDio b s) h
    · exact h
  hostWrite a d _ h := storageOk_hostWrite a d h
  hostRead a _ h := storageOk_hostRead a h
  reset _ h := storageOk_blockReset h

/-- Settles O52: every turn keeps the storage; a frame needs two places of EQ, a TX event takes the place of one. -/
theorem stepKeepsStorage : Obligations.StepKeepsStorage := fun _ _ hs h => storageOk_stepKeeps.step hs h

end Sys2Proof.Proofs
end

/-! ### x[PC], the shadow and TX_PENDING -/

section

namespace Sys2Proof.Machine

open Sys2Proof.Safety

/-! #### Where x[PC] is after an action -/

/-- x[PC] stands at IDLE, at the failed point of `m`, or at a step of `m` that `ok` allows. -/
def pcAt (m : Msg) (ok : Nat → Prop) (t : State) : Prop :=
  t.eng.pc = .idle ∨ t.eng.pc = .failed m ∨ ∃ j, t.eng.pc = .run m j ∧ ok j

theorem pcAt_idle {m : Msg} {ok : Nat → Prop} {t : State} : pcAt m ok (setPc .idle t) := .inl rfl

theorem pcAt_failed {m : Msg} {ok : Nat → Prop} {t : State} : pcAt m ok (setPc (.failed m) t) := .inr (.inl rfl)

theorem pcAt_run {m : Msg} {ok : Nat → Prop} {t : State} {j : Nat} (h : ok j) : pcAt m ok (setPc (.run m j) t) :=
  .inr (.inr ⟨j, rfl, h⟩)

/-- An action of a command leads to a step of its rule, and past the checks only with a legal operand. -/
theorem CmdStep.pcAt {c : Config.Params} {i : Instr} {m : Msg} {k : Nat} {s t : State} (h : CmdStep c i m k s t) :
    pcAt m (fun j => 1 ≤ j ∧ j ≤ lastStepOf i ∧ (3 ≤ j → 3 ≤ k ∨ operandsLegal c i = true)) t := by
  have hmoves {j : Nat} (hm : Moves c i k j) :
      1 ≤ j ∧ j ≤ lastStepOf i ∧ (3 ≤ j → 3 ≤ k ∨ operandsLegal c i = true) := ⟨hm.pos, hm.last, fun _ => hm.legal⟩
  cases h with
  | checked hk hlast hconn hbegin hlegal =>
    exact pcAt_run ⟨by omega, hlast, fun h3 => .inr (hlegal (by omega))⟩
  | replies => exact pcAt_idle
  | fails | pollFails => exact pcAt_failed
  | works j w hm | transfers j e w he hl hm | modes e md he hl hm | drives b hl hm | loadsWait ms hi hm
  | copies lp ld delay plen j x b w hi hm | loadsEcho lp ld delay plen n d hi hm => exact pcAt_run (hmoves hm)
  | arms t e hi hk | opens f hi hk | entersTxWait n e hi hk =>
    subst hi hk
    exact pcAt_run ⟨by omega, by simp [lastStepOf], fun _ => .inl (by omega)⟩
  | polls n j e w hi hk hj =>
    subst hi hk
    exact pcAt_run ⟨by omega, by rw [lastStepOf]; omega, fun _ => .inl (by omega)⟩
  | leavesTxWait n e hi hk =>
    subst hi
    exact pcAt_run ⟨by omega, by rw [lastStepOf]; omega, fun _ => .inl (by omega)⟩

theorem lastStep_of_msgInstr {m : Msg} {i : Instr} (h : msgInstr m = some i) : lastStep m = lastStepOf i := by
  cases m <;> simp_all [lastStep, msgInstr]

theorem MsgStep.pcAt {m : Msg} {k : Nat} {s t : State} (h : MsgStep m k s t) :
    pcAt m (fun j => 1 ≤ j ∧ j ≤ lastStep m) t := by
  obtain ⟨i, hi, h⟩ | _ | ⟨rfl, h⟩ | ⟨rfl, h⟩ := h
  · rcases h.pcAt with hpc | hpc | ⟨j, hpc, hj, hl, -⟩
    · exact .inl hpc
    · exact .inr (.inl hpc)
    · exact .inr (.inr ⟨j, hpc, hj, lastStep_of_msgInstr hi ▸ hl⟩)
  · exact pcAt_idle
  · cases h with
    | works j w hk hj | transfers j e w he hk hj => exact pcAt_run hj
    | connected | emits => exact pcAt_run (by simp [lastStep])
    | fails => exact pcAt_failed
    | _ => exact pcAt_idle
  · cases h with
    | fails => exact pcAt_failed
    | _ => exact pcAt_idle

/-! #### The shadow after an action -/

theorem ReplyUpd.radio {i : Instr} {k : Nat} {s u : State} (h : ReplyUpd i k s u) :
    u.radio = s.radio ∨ (∃ f, shadowOf i = some f ∧ 3 ≤ k ∧ u.radio = f s.radio) ∨
    (∃ f, i = .begin f ∧ 4 ≤ k ∧ u.radio = { resetRadio with freq := BitVec.ofNat 32 f }) := by
  cases h with
  | connects f hi hk => exact .inr (.inr ⟨f, hi, hk, rfl⟩)
  | shadows f hi hk => exact .inr (.inl ⟨f, hi, hk, rfl⟩)
  | disconnects => exact .inl (by simp [disconnected])
  | sends => exact .inl (by simp)
  | stops =>
    left
    unfold echoStopped
    split <;> rfl
  | _ => exact .inl rfl

/-- The shadow changes at a command's end only, by a setter or by BEGIN (R30, R123). -/
theorem CmdStep.radio {c : Config.Params} {i : Instr} {m : Msg} {k : Nat} {s t : State} (h : CmdStep c i m k s t) :
    t.radio = s.radio ∨ (t.eng.pc = .idle ∧ ∃ f, shadowOf i = some f ∧ 3 ≤ k ∧ t.radio = f s.radio) ∨
    (t.eng.pc = .idle ∧ ∃ f, i = .begin f ∧ 4 ≤ k ∧ t.radio = { resetRadio with freq := BitVec.ofNat 32 f }) := by
  cases h with
  | replies op st v u hroom hu =>
    have hresp : (setPc .idle (respond op st v u)).radio = u.radio := by simp
    rw [hresp]
    rcases hu.radio with h | h | h
    · exact .inl h
    · exact .inr (.inl ⟨rfl, h⟩)
    · exact .inr (.inr ⟨rfl, h⟩)
  | _ => exact .inl rfl

theorem ioErrorBody_radio (op : Option Byte) (s : State) : (ioErrorBody op s).radio = s.radio := by
  rcases ioErrorBody_cases op s with ⟨-, h⟩ | ⟨o, -, ⟨-, h⟩ | ⟨-, h⟩⟩ <;> rw [h] <;> simp [dropLink]

/-! #### TX_PENDING and the mode after an action -/

theorem waits_of_begins {i : Instr} (h : begins i = true) (k : Nat) : waits i k = false := by
  cases i <;> simp_all [begins, waits]

/-- A Reply is outside the TX wait. -/
theorem ReplyUpd.waits {i : Instr} {k : Nat} {s u : State} (h : ReplyUpd i k s u) : Machine.waits i k = false := by
  cases h with
  | nothing hb hw => exact hw
  | rejects hi => exact waits_of_begins hi k
  | shadows f hi => exact waits_of_shadowOf hi k
  | sends n st kind hi hkind hk =>
    rcases hk with rfl | rfl <;> rw [hi] <;> rfl
  | subscribes id' on hi => rcases hi with hi | hi <;> rw [hi] <;> rfl
  | connects f hi | resets hi | disconnects hi | starts lp ld delay plen hi | stops hi => rw [hi]; rfl

theorem ReplyUpd.tx {i : Instr} {k : Nat} {s u : State} (h : ReplyUpd i k s u) : u.tx = s.tx := by
  cases h with
  | disconnects => simp [disconnected]
  | sends => simp
  | stops => unfold echoStopped; split <;> rfl
  | _ => rfl

theorem ReplyUpd.mode {i : Instr} {k : Nat} {s u : State} (h : ReplyUpd i k s u) :
    u.eng.mode = s.eng.mode ∨ u.eng.mode = .unknown := by
  cases h with
  | rejects | resets | disconnects => exact .inr rfl
  | sends => exact .inl (by simp)
  | stops =>
    left
    unfold echoStopped
    split <;> rfl
  | _ => exact .inl rfl

/-- The message is in its TX wait at this step. -/
theorem isTransmit_and_txWaitStep {m : Msg} {i : Instr} (hi : msgInstr m = some i) (k : Nat) :
    (isTransmit m && txWaitStep k) = waits i k := by
  cases i <;> simp [isTransmit, hi, waits]

end Sys2Proof.Machine

namespace Sys2Proof.Proofs

open Sys2Proof.Machine Sys2Proof.Safety

/-! #### O57: the shadow's values -/

/-- The legal values of the shadow (R30). -/
def RadioLegal (r : RadioCfg) : Prop :=
  freqOk r.freq.toNat = true ∧ 6 ≤ r.sf.toNat ∧ r.sf.toNat ≤ 12 ∧ r.bw.toNat ≤ 9 ∧ 5 ≤ r.cr.toNat ∧ r.cr.toNat ≤ 8 ∧
  2 ≤ r.txPwr.toNat ∧ r.txPwr.toNat ≤ 20 ∧ r.preamble = 8 ∧ r.crcOn = true ∧ (r.sf = 6 → r.implicitHdr = true)

theorem shadowOk_iff (s : State) : ShadowOk s ↔ RadioLegal s.radio ∧ operandsChecked s = true := by
  simp only [ShadowOk, RadioLegal, and_assoc]

theorem freqOk_ofNat {f : Nat} (h : freqOk f = true) : freqOk (BitVec.ofNat 32 f).toNat = true := by
  have hlt : f < 2 ^ 32 := by
    simp only [freqOk, Bool.and_eq_true, decide_eq_true_eq] at h
    omega
  rwa [BitVec.toNat_ofNat, Nat.mod_eq_of_lt hlt]

theorem radioLegal_reset {f : Nat} (h : freqOk f = true) :
    RadioLegal { resetRadio with freq := BitVec.ofNat 32 f } :=
  have hreset : RadioLegal resetRadio := by unfold RadioLegal; decide
  ⟨freqOk_ofNat h, hreset.2⟩

/-- SET_SF with a legal factor leaves the factor in the shadow, and 6 only under an implicit header (R126). -/
theorem radioLegal_shadowSf {sf : Nat} {r : RadioCfg} (hlo : 6 ≤ sf) (hhi : sf ≤ 12) (h : RadioLegal r) :
    RadioLegal (shadowSf sf r) := by
  obtain ⟨hfreq, -, -, hrest⟩ := h
  obtain ⟨hbw, hcr, hcr', hpwr, hpwr', hpre, hcrc, -⟩ := hrest
  have hsf : (BitVec.ofNat 4 sf).toNat = sf := by
    rw [BitVec.toNat_ofNat]
    omega
  refine ⟨hfreq, hlo.trans hsf.ge, hsf.le.trans hhi, hbw, hcr, hcr', hpwr, hpwr', hpre, hcrc, fun h6 => ?_⟩
  have hsix : sf = 6 := hsf.symm.trans (congrArg BitVec.toNat h6)
  simp [shadowSf, hsix]

/-- A setter with a legal operand leaves the shadow legal (R90, R125 to R132). -/
theorem radioLegal_shadowOf {c : Config.Params} {i : Instr} {f : RadioCfg → RadioCfg} {r : RadioCfg}
    (hi : shadowOf i = some f) (hl : operandsLegal c i = true) (h : RadioLegal r) : RadioLegal (f r) := by
  cases i <;> cases hi <;>
    simp only [operandsLegal, Bool.and_eq_true, decide_eq_true_eq] at hl
  case setFrequency f' => exact ⟨freqOk_ofNat hl, h.2⟩
  case setSf sf => exact radioLegal_shadowSf hl.1 hl.2 h
  all_goals
    obtain ⟨hfreq, hsf, hsf', hbw, hcr, hcr', hpwr, hpwr', hrest⟩ := h
  case setBw k =>
    have hk : (BitVec.ofNat 4 k).toNat ≤ 9 := by rw [BitVec.toNat_ofNat]; omega
    exact ⟨hfreq, hsf, hsf', hk, hcr, hcr', hpwr, hpwr', hrest⟩
  case setCr k =>
    have hk : 5 ≤ (BitVec.ofNat 4 k).toNat ∧ (BitVec.ofNat 4 k).toNat ≤ 8 := by rw [BitVec.toNat_ofNat]; omega
    exact ⟨hfreq, hsf, hsf', hbw, hk.1, hk.2, hpwr, hpwr', hrest⟩
  case setTxPower p =>
    have hp : 2 ≤ (BitVec.ofNat 5 p).toNat ∧ (BitVec.ofNat 5 p).toNat ≤ 20 := by rw [BitVec.toNat_ofNat]; omega
    exact ⟨hfreq, hsf, hsf', hbw, hcr, hcr', hp.1, hp.2, hrest⟩
  case setSyncWord w => exact ⟨hfreq, hsf, hsf', hbw, hcr, hcr', hpwr, hpwr', hrest⟩

/-- At a step of a command, the check of `operandsChecked`. -/
theorem operandsChecked_run {s : State} {m : Msg} {k : Nat} (hpc : s.eng.pc = .run m k) :
    operandsChecked s = true ↔ ∀ i, msgInstr m = some i → k < 3 ∨ operandsLegal s.cfg i = true := by
  rcases hi : msgInstr m with _ | i <;> simp [operandsChecked, hpc, hi]

theorem operandsChecked_of_pcAt {m : Msg} {ok : Nat → Prop} {t : State} (h : pcAt m ok t)
    (hrun : ∀ j i, ok j → msgInstr m = some i → j < 3 ∨ operandsLegal t.cfg i = true) :
    operandsChecked t = true := by
  rcases h with hpc | hpc | ⟨j, hpc, hj⟩
  · simp [operandsChecked, hpc]
  · simp [operandsChecked, hpc]
  · exact (operandsChecked_run hpc).mpr fun i hi => hrun j i hj hi

theorem shadowOk_msgStep {m : Msg} {k : Nat} {s t : State} (hpc : s.eng.pc = .run m k) (hc : t.cfg = s.cfg)
    (ht : MsgStep m k s t) (h : ShadowOk s) : ShadowOk t := by
  rw [shadowOk_iff] at h ⊢
  obtain ⟨hradio, hchecked⟩ := h
  rw [operandsChecked_run hpc] at hchecked
  have hmsg := ht.pcAt
  obtain ⟨i, hi, ht⟩ | ⟨w, op, hm, hi, hroom⟩ | ⟨rfl, ht⟩ | ⟨rfl, ht⟩ := ht
  · have hlegal (hk : 3 ≤ k) : operandsLegal s.cfg i = true := (hchecked i hi).resolve_left (by omega)
    constructor
    · rcases ht.radio with hr | ⟨-, f, hf, hk, hr⟩ | ⟨-, f, rfl, hk, hr⟩ <;> rw [hr]
      · exact hradio
      · exact radioLegal_shadowOf hf (hlegal hk) hradio
      · exact radioLegal_reset (hlegal (by omega))
    · refine operandsChecked_of_pcAt ht.pcAt fun j i' ⟨_, _, hj⟩ hi' => ?_
      obtain rfl : i = i' := Option.some.inj (hi.symm.trans hi')
      rw [hc, or_iff_not_imp_left]
      exact fun hj3 => (hj (by omega)).elim hlegal id
  · exact ⟨by simpa using hradio, operandsChecked_of_pcAt hmsg fun j i' _ hi' => by simp [hi] at hi'⟩
  · refine ⟨?_, operandsChecked_of_pcAt hmsg fun _ _ _ hi' => by cases hi'⟩
    cases ht with
    | emits => simpa using hradio
    | _ => exact hradio
  · refine ⟨?_, operandsChecked_of_pcAt hmsg fun _ _ _ hi' => by cases hi'⟩
    cases ht <;> exact hradio

/-- The shadow and x[PC] are all that the invariant of the shadow looks at. -/
theorem shadowOk_congr {s t : State} (hr : t.radio = s.radio) (hp : t.eng.pc = s.eng.pc) (hc : t.cfg = s.cfg)
    (h : ShadowOk s) : ShadowOk t := by
  simpa only [ShadowOk, operandsChecked, hr, hp, hc] using h

theorem shadowOk_take {m : Msg} {rest : List Msg} {s : State} (h : ShadowOk s) : ShadowOk (take m rest s) := by
  rw [shadowOk_iff] at h ⊢
  exact ⟨by simpa using h.1, (operandsChecked_run (take_eng_pc m rest s)).mpr fun _ _ => .inl (by omega)⟩

theorem shadowOk_ioErrorEffect {op : Option Byte} {s : State} (h : ShadowOk s) : ShadowOk (ioErrorEffect op s) := by
  rw [shadowOk_iff] at h ⊢
  rw [ioErrorEffect_eq]
  exact ⟨by rw [setPc_radio, ioErrorBody_radio]; exact h.1, rfl⟩

theorem shadowOk_blockReset (s : State) : ShadowOk (blockReset s) :=
  (shadowOk_iff _).mpr ⟨radioLegal_reset (f := 915000000) (by decide), rfl⟩

theorem shadowOk_stepKeeps : StepKeeps ShadowOk :=
  .of_engine
    (.of_msgStep (fun _ _ h => h) (fun _ _ _ _ _ h => shadowOk_take h)
      (fun _ _ _ _ hpc hf ht h => shadowOk_msgStep hpc hf.cfg ht h) (fun _ _ _ _ h => shadowOk_ioErrorEffect h))
    (fun _ _ hl => shadowOk_congr hl.radio hl.pc hl.cfg)
    (fun s _ => shadowOk_blockReset s)

/-- Settles O57: the shadow changes with a Reply alone, which a setter reaches with a legal operand only. -/
theorem stepKeepsShadowLegal : Obligations.StepKeepsShadowLegal := fun _ _ hs h => shadowOk_stepKeeps.step hs h

/-! #### O54: TX_PENDING -/

/-- A state with x[TXP] as told, and in mode TX exactly then (R28). -/
def TxAt (pending : Bool) (s : State) : Prop :=
  s.tx.pending = pending ∧ (s.tx.pending = true ↔ s.eng.mode = .tx)

theorem txOk_idle {s : State} (h : TxAt false s) : TxOk (setPc .idle s) :=
  ⟨h.2, by simp [txPcOk, h.1]⟩

theorem txOk_run {s : State} {m : Msg} {j : Nat} (h : TxAt (isTransmit m && txWaitStep j) s) :
    TxOk (setPc (.run m j) s) :=
  ⟨h.2, by simp [txPcOk, h.1]⟩

theorem txOk_failed {s : State} {m : Msg} {b : Bool} (h : TxAt b s) (hm : b = true → isTransmit m = true) :
    TxOk (setPc (.failed m) s) := by
  refine ⟨h.2, ?_⟩
  simp only [txPcOk, setPc_eng_pc, setPc_tx, h.1, Bool.or_eq_true, Bool.not_eq_true']
  cases b
  · exact .inl rfl
  · exact .inr (hm rfl)

theorem txAt_of_txOk {s : State} {m : Msg} {k : Nat} (hpc : s.eng.pc = .run m k) (h : TxOk s) :
    TxAt (isTransmit m && txWaitStep k) s :=
  ⟨by simpa [txPcOk, hpc] using h.2, h.1⟩

/-- A mode other than TX, outside the TX wait. -/
theorem txAt_false {s : State} (hp : s.tx.pending = false) (hm : s.eng.mode ≠ .tx) : TxAt false s :=
  ⟨hp, by simp [hp, hm]⟩

/-- Nothing but x[TXP] and the mode matter. -/
theorem TxAt.congr {b : Bool} {s t : State} (h : TxAt b s) (hp : t.tx.pending = s.tx.pending)
    (hm : t.eng.mode = s.eng.mode) : TxAt b t := by
  simpa only [TxAt, hp, hm] using h

theorem txAt_replyUpd {i : Instr} {k : Nat} {s u : State} (hu : ReplyUpd i k s u) (h : TxAt false s) :
    TxAt false u := by
  rcases hu.mode with hm | hm
  · exact h.congr (by rw [hu.tx]) hm
  · exact txAt_false (by rw [hu.tx, h.1]) (by simp [hm])

theorem txAt_respond {op : Byte} {st : Status} {v : Half} {b : Bool} {s : State} (h : TxAt b s) :
    TxAt b (respond op st v s) :=
  h.congr (by simp) (by simp)

/-- Every atomic action of a command keeps x[TXP] and the mode together: TRANSMIT's TX-mode write sets both, its two
Standby writes clear both, and no other mode write is made in the wait. -/
theorem txOk_cmdStep {c : Config.Params} {i : Instr} {m : Msg} {k : Nat} {s t : State} (hi : msgInstr m = some i)
    (ht : CmdStep c i m k s t) (h : TxAt (waits i k) s) : TxOk t := by
  have hrun {j : Nat} {u : State} (hu : TxAt (waits i j) u) : TxOk (setPc (.run m j) u) :=
    txOk_run (isTransmit_and_txWaitStep hi j ▸ hu)
  have hmoves {j : Nat} {u : State} (hm : Moves c i k j) (hu : TxAt (waits i k) u) : TxOk (setPc (.run m j) u) :=
    hrun (hm.wait ▸ hu)
  have hfailed {u : State} (hu : TxAt (waits i k) u) : TxOk (setPc (.failed m) u) := by
    refine txOk_failed hu fun hw => ?_
    rw [← isTransmit_and_txWaitStep hi, Bool.and_eq_true] at hw
    exact hw.1
  cases ht with
  | checked hk =>
    have hw : waits i k = waits i (k + 1) := by
      cases i
      case transmit n => interval_cases k <;> rfl
      all_goals rfl
    exact hrun (hw ▸ h)
  | replies op st v u hroom hu =>
    rw [hu.waits] at h
    exact txOk_idle (txAt_respond (txAt_replyUpd hu h))
  | fails e => exact hfailed h
  | works j w hm => exact hmoves hm h
  | transfers j e w he hl hm => exact hmoves hm h
  | modes e md he hl hm hmd hw =>
    rw [hw] at h
    refine hrun ?_
    rw [← hm.wait, hw]
    exact txAt_false h.1 (by rcases hmd with rfl | rfl | rfl <;> simp)
  | arms t e hi' hk =>
    subst hi' hk
    exact hrun (txAt_false h.1 (by simp [loadRxSingle]))
  | opens f hi' hk =>
    subst hi' hk
    exact hrun h
  | drives b hl hm => exact hmoves hm h
  | loadsWait ms hi' hm => exact hmoves hm h
  | entersTxWait n e hi' hk =>
    subst hi' hk
    exact hrun ⟨rfl, by simp [enterTxWait]⟩
  | polls n j e w hi' hk hj =>
    subst hi' hk
    rcases hj with rfl | rfl | rfl <;> exact hrun h
  | pollFails n e hi' hk =>
    exact hfailed h
  | leavesTxWait n e hi' hk =>
    subst hi'
    rcases hk with rfl | rfl <;> exact hrun (txAt_false rfl (by simp [leaveTxWait]))
  | copies lp ld delay plen j x b w hi' hm => exact hmoves hm h
  | loadsEcho lp ld delay plen n d hi' hm => exact hmoves hm h

/-- A message with no instruction is no TRANSMIT. -/
theorem isTransmit_of_none {m : Msg} (h : msgInstr m = none) : isTransmit m = false := by
  simp [isTransmit, h]

theorem txOk_msgStep {m : Msg} {k : Nat} {s t : State} (hpc : s.eng.pc = .run m k) (ht : MsgStep m k s t)
    (h : TxOk s) : TxOk t := by
  have hat := txAt_of_txOk hpc h
  obtain ⟨i, hi, ht⟩ | ⟨w, op, hm, hi, hroom⟩ | ⟨rfl, ht⟩ | ⟨rfl, ht⟩ := ht
  · exact txOk_cmdStep hi ht (isTransmit_and_txWaitStep hi k ▸ hat)
  · rw [isTransmit_of_none hi, Bool.false_and] at hat
    exact txOk_idle (txAt_respond hat)
  · have hat : TxAt false s := hat
    cases ht with
    | connected | works | transfers => exact txOk_run (m := .edge) hat
    | ends | clears => exact txOk_idle hat
    | fails => exact txOk_failed (b := false) hat (by simp)
    | emits => exact txOk_run (m := .edge) (hat.congr (by simp) (by simp))
    | endsWindow => exact txOk_idle (txAt_false hat.1 (by simp))
  · have hat : TxAt false s := hat
    cases ht with
    | stale => exact txOk_idle hat
    | fails => exact txOk_failed (b := false) hat (by simp)
    | standby => exact txOk_idle (txAt_false hat.1 (by simp))

theorem txOk_ioErrorEffect (op : Option Byte) (s : State) : TxOk (ioErrorEffect op s) := by
  have hmode : (ioErrorEffect op s).eng.mode = .unknown := by rw [ioErrorEffect_eng]
  have hpending : (ioErrorBody op s).tx.pending = false := by
    rcases ioErrorBody_cases op s with ⟨-, h⟩ | ⟨o, -, ⟨-, h⟩ | ⟨-, h⟩⟩ <;> rw [h] <;> simp [dropLink]
  rw [ioErrorEffect_eq] at hmode ⊢
  exact txOk_idle (txAt_false hpending (by rw [← setPc_eng_mode .idle, hmode]; simp))

theorem txOk_take {m : Msg} {rest : List Msg} {s : State} (hpc : s.eng.pc = .idle) (h : TxOk s) :
    TxOk (take m rest s) := by
  have hpending : s.tx.pending = false := by simpa [txPcOk, hpc] using h.2
  have hmode : (take m rest s).eng.mode = s.eng.mode := by cases m <;> rfl
  refine ⟨by rw [hmode, take_tx]; exact h.1, ?_⟩
  simp [txPcOk, take_eng_pc, hpending, txWaitStep]

theorem txOk_stepKeeps : StepKeeps TxOk :=
  .of_engine
    (.of_msgStep (fun _ _ h => h) (fun _ _ _ hpc _ h => txOk_take hpc h)
      (fun _ _ _ _ hpc _ ht h => txOk_msgStep hpc ht h) (fun _ _ _ _ _ => txOk_ioErrorEffect _ _))
    (fun s t hl h => by simpa only [TxOk, txPcOk, hl.pending, hl.mode, hl.pc] using h)
    (fun _ _ => ⟨iff_of_false (nofun : ¬ false = true) (nofun : ¬ Mode.unknown = .tx), rfl⟩)

/-- Settles O54: x[TXP] and the mode TX are set and cleared together, at the steps that bound the wait. -/
theorem stepKeepsTxPending : Obligations.StepKeepsTxPending := fun _ _ hs h => txOk_stepKeeps.step hs h

end Sys2Proof.Proofs
end

/-! ### Progress: no step refuses, and the session alias is the one fault -/

section

namespace Sys2Proof.Machine

open Sys2Proof.Safety

/-- An action that never faults. -/
def NoFault (a : Act) : Prop := ∀ s r, a s ≠ .fault r

theorem noFault_ite {p : State → Prop} {inst : DecidablePred p} {a b : Act} (ha : NoFault a) (hb : NoFault b) :
    NoFault (fun s => if p s then a s else b s) := by
  intro s r
  dsimp only
  split
  · exact ha s r
  · exact hb s r

theorem noFault_step (f : State → State) : NoFault (fun s => .step (f s)) := by
  intro s r h
  cases h

theorem noFault_goto (j : Nat) (f : State → State) : NoFault (fun s => .goto j (f s)) := by
  intro s r h
  cases h

theorem noFault_done (f : State → State) : NoFault (fun s => .done (f s)) := by
  intro s r h
  cases h

theorem noFault_ioErr (f : State → State) : NoFault (fun s => .ioErr (f s)) := by
  intro s r h
  cases h

theorem noFault_hold : NoFault (fun _ => .hold) := by
  intro s r h
  cases h


/-- A transfer and what follows it. -/
theorem noFault_transfer {f : State → State} {a : Act} (ha : NoFault a) :
    NoFault (fun s => if spiErrNow s then .ioErr (f s) else a s) :=
  noFault_ite (noFault_ioErr f) ha

theorem noFault_reply (op : Byte) (st : Status) (v : State → Half) (upd : State → State) :
    NoFault (fun s => replyWith op st (v s) upd s) :=
  noFault_ite (noFault_done _) noFault_hold

@[simp] theorem noFault_replyWith (op : Byte) (st : Status) (v : Half) (upd : State → State) :
    NoFault (replyWith op st v upd) := noFault_reply op st (fun _ => v) upd

@[simp] theorem noFault_need (ok : State → Bool) (op : Byte) (st : Status) : NoFault (need ok op st) :=
  noFault_ite (noFault_step id) (noFault_replyWith op st 0 id)

@[simp] theorem noFault_needConnected (op : Byte) : NoFault (needConnected op) := noFault_need _ op _

@[simp] theorem noFault_writeAct (reg : Config.RegMap → ChipAddr) (val : State → Byte) (upd : State → State) :
    NoFault (writeAct reg val upd) := noFault_transfer (noFault_step _)

@[simp] theorem noFault_readAct (reg : Config.RegMap → ChipAddr) (store : Byte → State → State) :
    NoFault (readAct reg store) := noFault_transfer (noFault_step _)

@[simp] theorem noFault_opModeAct (md : Mode) (upd : State → State) : NoFault (opModeAct md upd) :=
  noFault_writeAct _ _ _

@[simp] theorem noFault_setAct (f : State → State) : NoFault (setAct f) := noFault_step f

@[simp] theorem noFault_holdAct : NoFault holdAct := noFault_ite (noFault_step id) noFault_hold

@[simp] theorem noFault_versionAct : NoFault versionAct :=
  noFault_ite (noFault_step id) (noFault_reply 0x01 .invalidChip (fun s => s.work.v.setWidth 16) _)

@[simp] theorem noFault_armAct (t : Nat) : NoFault (armAct t) := by
  unfold armAct
  split <;> simp

@[simp] theorem noFault_fifoAct (n : Nat) : NoFault (fifoAct n) :=
  noFault_transfer (noFault_ite (noFault_goto 5 _) (noFault_step _))

@[simp] theorem noFault_txPollAct : NoFault txPollAct :=
  noFault_ite
    (noFault_transfer (noFault_ite (noFault_goto 10 _) (noFault_ite (noFault_goto 13 _) (noFault_goto 9 _))))
    noFault_hold

@[simp] theorem noFault_txReplyAct (st : Status) (kind : EventKind) : NoFault (txReplyAct st kind) :=
  noFault_ite (noFault_done _) noFault_hold

@[simp] theorem noFault_prefixStartAct (lp : Bool) (plen : Nat) : NoFault (prefixStartAct lp plen) :=
  noFault_ite (noFault_step _) (noFault_goto 5 id)

@[simp] theorem noFault_prefixCopyAct (plen : Nat) : NoFault (prefixCopyAct plen) :=
  noFault_ite (noFault_goto 4 _) (noFault_step _)

@[simp] theorem noFault_edgeConnectedAct : NoFault edgeConnectedAct := noFault_ite (noFault_step id) (noFault_done id)

@[simp] theorem noFault_edgeBranchAct : NoFault edgeBranchAct :=
  noFault_ite (noFault_ite (noFault_goto 4 id) (noFault_goto 5 id)) (noFault_goto 15 id)

@[simp] theorem noFault_crcDropAct : NoFault crcDropAct := noFault_transfer (noFault_goto 14 _)

@[simp] theorem noFault_frameLengthAct : NoFault frameLengthAct := noFault_ite (noFault_goto 13 id) (noFault_step _)

@[simp] theorem noFault_rxFifoAct : NoFault rxFifoAct :=
  noFault_transfer (noFault_ite (noFault_goto 9 _) (noFault_step _))

@[simp] theorem noFault_rxEndAct : NoFault rxEndAct :=
  noFault_ite (noFault_transfer (noFault_done _)) (noFault_done id)

@[simp] theorem noFault_spuriousAct : NoFault spuriousAct :=
  noFault_ite (noFault_done id) (noFault_transfer (noFault_done _))

@[simp] theorem noFault_rxTimeoutAct : NoFault rxTimeoutAct :=
  noFault_ite (noFault_transfer (f := fun s => afterBus (clearFired s) [.write s.cfg.regmap.opMode (opModeByte .standby)])
    (noFault_done _)) (noFault_done id)

/-- An action faults on the session alias alone (log 14). -/
def FaultsOnAlias (a : Act) : Prop :=
  ∀ s r, a s = .fault r → r = .sessionAlias ∧ s.ectl.session + 1 = s.eseq.seen

theorem faultsOnAlias_of_noFault {a : Act} (h : NoFault a) : FaultsOnAlias a := fun s r hr => absurd hr (h s r)

theorem faultsOnAlias_echoStartAct : FaultsOnAlias echoStartAct := by
  intro s r h
  simp only [echoStartAct] at h
  split at h
  · rename_i halias
    rw [Bool.and_eq_true, decide_eq_true_eq] at halias
    exact ⟨(Flow.fault.inj h).symm, halias.2⟩
  · exact absurd h (noFault_replyWith _ _ _ _ s r)

theorem faultsOnAlias_instrProg (c : Config.Params) (i : Instr) : ∀ a ∈ instrProg c i, FaultsOnAlias a := by
  have hprog {l : List Act} (h : ∀ a ∈ l, NoFault a) : ∀ a ∈ l, FaultsOnAlias a :=
    fun a ha => faultsOnAlias_of_noFault (h a ha)
  cases i
  case echoStart lp ld delay plen =>
    have hsplit : instrProg c (.echoStart lp ld delay plen) =
        (echoStartProg lp ld delay plen).dropLast ++ [echoStartAct] := rfl
    rw [hsplit]
    refine List.forall_mem_append.mpr ⟨hprog ?_, by simpa using faultsOnAlias_echoStartAct⟩
    simp [echoStartProg]
  case begin f =>
    refine hprog ?_
    simp [instrProg, beginStart, waitActs, beginConfig, frfActs, applyDefaults, powerBody, sfBody, bwBody, crBody,
      syncBody]
  case setSf sf =>
    refine hprog ?_
    simp only [instrProg, setterProg, sfBody]
    split <;> simp
  case getRssi =>
    refine hprog ?_
    simpa [instrProg] using noFault_reply 0x0E .ok (fun s => rssiDbm s.work.v) id
  case getVersion =>
    refine hprog ?_
    simpa [instrProg] using noFault_reply 0x0F .ok (fun s => s.work.v.setWidth 16) id
  all_goals
    refine hprog ?_
    simp [instrProg, setterProg, frfActs, bwBody, crBody, powerBody, syncBody, transmitProg, waitActs]

theorem faultsOnAlias_msgProg (c : Config.Params) (m : Msg) : ∀ a ∈ msgProg c m, FaultsOnAlias a := by
  have hprog {l : List Act} (h : ∀ a ∈ l, NoFault a) : ∀ a ∈ l, FaultsOnAlias a :=
    fun a ha => faultsOnAlias_of_noFault (h a ha)
  rcases m with w | ⟨_ | _, arg, sess⟩ | _ | _
  case hcmd =>
    simp only [msgProg]
    split
    · exact faultsOnAlias_instrProg c _
    · exact hprog (by simp)
  case ecall.receiveMode => exact faultsOnAlias_instrProg c (.receiveMode arg.toNat)
  case ecall.transmit => exact faultsOnAlias_instrProg c (.transmit arg.toNat)
  case edge => exact hprog (by simp [msgProg, dispatchProg])
  case rxtmo => exact hprog (by simp [msgProg])

/-! #### Every step of a rule has its action -/

theorem length_instrProg (c : Config.Params) (i : Instr) : (instrProg c i).length = lastStepOf i := by
  cases i
  case setSf sf =>
    simp only [instrProg, setterProg, List.length_append, length_sfBody, lastStepOf]
    split <;> rfl
  all_goals rfl

theorem length_msgProg (c : Config.Params) (m : Msg) : (msgProg c m).length = lastStep m := by
  rcases m with w | ⟨_ | _, arg, sess⟩ | _ | _
  case hcmd =>
    simp only [msgProg, lastStep, msgInstr]
    rcases decode w with ⟨⟨op⟩⟩ | i
    · rfl
    · exact length_instrProg c i
  all_goals rfl

theorem exists_stepAt {prog : List Act} {k : Nat} (h1 : 1 ≤ k) (h2 : k ≤ prog.length) :
    ∃ a ∈ prog, stepAt prog k = some a := by
  obtain ⟨k, rfl⟩ := Nat.exists_eq_add_of_le' h1
  exact ⟨prog[k], List.getElem_mem _, by rw [stepAt_succ, List.getElem?_eq_getElem]⟩

/-- A command moves x[E_SESSION] at its end alone (R191). -/
theorem CmdStep.session {c : Config.Params} {i : Instr} {m : Msg} {k : Nat} {s t : State} (h : CmdStep c i m k s t) :
    t.eng.pc = .idle ∨ t.ectl.session = s.ectl.session := by
  cases h with
  | replies => exact .inl rfl
  | _ => exact .inr rfl

theorem MsgStep.session {m : Msg} {k : Nat} {s t : State} (h : MsgStep m k s t) :
    t.eng.pc = .idle ∨ t.ectl.session = s.ectl.session := by
  obtain ⟨i, -, h⟩ | _ | ⟨-, h⟩ | ⟨-, h⟩ := h
  · exact h.session
  · exact .inl rfl
  · cases h with
    | emits => exact .inr (by simp)
    | _ => exact .inr rfl
  · cases h <;> exact .inr rfl

/-- Where a run stands: at a step of its message, under the parameters, the session and the sequencer's registers it
began with. -/
def RunsAt (s : State) (m : Msg) (k : Nat) (u : State) : Prop :=
  1 ≤ k ∧ k ≤ lastStep m ∧ u.cfg = s.cfg ∧ u.ectl.session = s.ectl.session ∧ u.eseq = s.eseq

/-- A run of a message ends in a next state, or stops at the session alias. -/
theorem runActs_progress {op : Option Byte} {m : Msg} {s : State} (n : Nat) {k : Nat} {u : State}
    (hu : RunsAt s m k u) :
    (∃ t, runActs op (msgProg s.cfg m) m n k u = .next t) ∨
    (runActs op (msgProg s.cfg m) m n k u = .fault .sessionAlias ∧ s.ectl.session + 1 = s.eseq.seen) := by
  induction n generalizing k u with
  | zero => exact .inl ⟨_, rfl⟩
  | succ n ih =>
    obtain ⟨hk, hl, hcfg, hsess, heseq⟩ := hu
    obtain ⟨a, hmem, ha⟩ := exists_stepAt hk ((length_msgProg s.cfg m).symm ▸ hl)
    have hreg := (regularProg_msgProg s.cfg m).regular ha
    have hmoves {j : Nat} {v : State} (hv : (a u).exit m k = some (setPc (.run m j) v)) : RunsAt s m j v := by
      have hmsg : MsgStep m k u (setPc (.run m j) v) := msgStep_of_exit (hcfg.symm ▸ ha) hv
      have hframe := hreg.framed_exit hv
      have hpos : 1 ≤ j ∧ j ≤ lastStep m := by simpa [pcAt] using hmsg.pcAt
      have hsess' : v.ectl.session = u.ectl.session := by simpa using hmsg.session
      exact ⟨hpos.1, hpos.2, hframe.cfg.trans hcfg, hsess'.trans hsess, hframe.eseq.trans heseq⟩
    rcases hf : a u with v | ⟨j, v⟩ | _ | v | v | r
    · rw [runActs_step ha hf]
      exact ih (hmoves (by rw [hf]; rfl))
    · rw [runActs_goto ha hf]
      exact ih (hmoves (by rw [hf]; rfl))
    · exact .inl ⟨_, runActs_hold ha hf⟩
    · exact .inl ⟨_, runActs_done ha hf⟩
    · exact .inl ⟨_, runActs_ioErr ha hf⟩
    · obtain ⟨rfl, halias⟩ := faultsOnAlias_msgProg s.cfg m a hmem u r hf
      rw [hsess, heseq] at halias
      exact .inr ⟨by simp only [runActs, ha, hf], halias⟩

end Sys2Proof.Machine

namespace Sys2Proof.Proofs

open Sys2Proof.Machine Sys2Proof.Safety

/-! #### O58 -/

theorem pcOk_of_pcAt {m : Msg} {t : State} (h : pcAt m (fun j => 1 ≤ j ∧ j ≤ lastStep m) t) : pcOk t = true := by
  rcases h with hpc | hpc | ⟨j, hpc, hj⟩ <;> simp only [pcOk, hpc]
  simpa using hj

theorem pcOk_congr {s t : State} (h : t.eng.pc = s.eng.pc) : pcOk t = pcOk s := by
  simp only [pcOk, h]

theorem one_le_lastStepOf (i : Instr) : 1 ≤ lastStepOf i := by
  cases i
  case setSf sf =>
    simp only [lastStepOf]
    split <;> omega
  all_goals simp [lastStepOf]

theorem one_le_lastStep (m : Msg) : 1 ≤ lastStep m := by
  rcases hi : msgInstr m with _ | i
  · cases m <;> simp [lastStep, hi]
  · rw [lastStep_of_msgInstr hi]
    exact one_le_lastStepOf i

theorem pcOk_stepKeeps : StepKeeps (fun s => pcOk s = true) :=
  .of_engine
    (.of_msgStep (fun _ _ h => h)
      (fun m rest s _ _ _ => by simpa [pcOk, take_eng_pc] using one_le_lastStep m)
      (fun _ _ _ _ _ _ ht _ => pcOk_of_pcAt ht.pcAt)
      (fun _ _ _ _ _ => by rw [pcOk, ioErrorEffect_eng]))
    (fun _ _ hl h => (pcOk_congr hl.pc).trans h)
    (fun _ _ => rfl)

/-- The engine's turn ends in a next state, or stops at the session alias. -/
theorem engineTurn_progress {s : State} (h : pcOk s = true) :
    (∃ t, engineTurn s = .next t) ∨
    (engineTurn s = .fault .sessionAlias ∧ s.ectl.session + 1 = s.eseq.seen) := by
  unfold engineTurn
  rcases hpc : s.eng.pc with _ | ⟨m, k⟩ | m
  · rcases hq : s.inq with _ | ⟨m, rest⟩ <;> simp only [currentMsg, hpc, hq, List.head?_nil, List.head?_cons]
    · exact .inl ⟨s, rfl⟩
    · simp only [runMsg_eq_runMessage, runMessage, hpc, hq]
      exact runActs_progress (s := s) _ ⟨le_rfl, one_le_lastStep m, by simp, by simp, by simp⟩
  · simp only [currentMsg, hpc, runMsg_eq_runMessage, runMessage]
    have hk : 1 ≤ k ∧ k ≤ lastStep m := by simpa [pcOk, hpc] using h
    exact runActs_progress (s := s) _ ⟨hk.1, hk.2, rfl, rfl, rfl⟩
  · simp only [currentMsg, hpc, runMsg_eq_runMessage, runMessage]
    left
    split <;> exact ⟨_, rfl⟩

/-- Settles O58: every step number that x[PC] takes has its action, and ECHO_START's last action alone can fault. -/
theorem stepNeverStopsOnItsOwn : Obligations.StepNeverStopsOnItsOwn := by
  intro s h
  have hprogress : (∃ t, step s = .next t) ∨ (step s = .fault .sessionAlias ∧ s.ectl.session + 1 = s.eseq.seen) := by
    rcases hturn : nextTurn s with n | _ | pick | _ | b | ⟨a, d⟩ | a | _
    case eng =>
      have hpc : pcOk (withQuantum n (dropTurn s)) = true := by
        rw [← h]
        exact pcOk_congr (by simp [withQuantum])
      simpa [step_of_engTurn hturn, withQuantum] using engineTurn_progress hpc
    all_goals
      left
      rw [step, hturn]
      exact ⟨_, rfl⟩
  rcases hprogress with ⟨t, ht⟩ | hfault
  · exact .inl ⟨t, ht, pcOk_stepKeeps.step h ht⟩
  · exact .inr hfault

end Sys2Proof.Proofs
end

/-! ### The link: connection, handles, mode, RX-single timer, pins and bus history -/

section

namespace Sys2Proof.Machine

open Sys2Proof.Safety

/-! #### The bus history -/

theorem historyOpen_append (b : Bool) (l l' : List BusEvent) :
    historyOpen b (l ++ l') = (historyOpen b l).bind fun b' => historyOpen b' l' := by
  induction l generalizing b with
  | nil => rfl
  | cons e l ih =>
    rcases e with ⟨a, v⟩ | ⟨a, v⟩ | ⟨_ | _ | _ | _, _ | _⟩ <;> simp only [List.cons_append, historyOpen, ih]
    all_goals cases b <;> rfl

/-- A transfer made with the handles open. -/
theorem historyOpen_transfer {l : List BusEvent} {e : BusEvent} (h : historyOpen false l = some true)
    (he : isTransfer e = true) : historyOpen false (l ++ [e]) = some true := by
  rw [historyOpen_append, h]
  cases e
  case pin => cases he
  all_goals rfl

/-! #### The invariant but for x[PC] -/

/-- The link's consistency, but for what x[PC] says of it (R27, R103, R106, R144). -/
structure LinkCore (s : State) : Prop where
  connected : s.eng.connected = true → s.eng.handles = true
  mode : s.eng.mode ≠ .unknown → s.eng.handles = true
  timer : s.rxs.fired = true ∨ s.rxs.cnt ≠ 0 → s.eng.connected = true ∧ s.eng.mode = .rxSingle
  pins : PinsOk s
  history : HistoryOk s

/-- A state with everything closed. -/
theorem linkCore_closed {s : State} (hh : s.eng.handles = false) (hc : s.eng.connected = false)
    (hm : s.eng.mode = .unknown) (hf : s.rxs.fired = false) (hn : s.rxs.cnt = 0)
    (hp : s.pins = { cs := .released, rst := .released, sclk := .released, mosi := .released })
    (hb : historyOpen false s.bus = some false) : LinkCore s where
  connected h := by simp [hc] at h
  mode h := absurd hm h
  timer h := by simp [hf, hn] at h
  pins := by simp [PinsOk, hh, hp]
  history := by simp [HistoryOk, hh, hb]

namespace LinkCore
variable {s t : State}

theorem congr (h : LinkCore s) (hh : t.eng.handles = s.eng.handles := by rfl)
    (hc : t.eng.connected = s.eng.connected := by rfl) (hm : t.eng.mode = s.eng.mode := by rfl)
    (hf : t.rxs.fired = s.rxs.fired := by rfl) (hn : t.rxs.cnt = s.rxs.cnt := by rfl)
    (hp : t.pins = s.pins := by rfl) (hb : t.bus = s.bus := by rfl) : LinkCore t where
  connected := by simpa only [hc, hh] using h.connected
  mode := by simpa only [hm, hh] using h.mode
  timer := by simpa only [hf, hn, hc, hm] using h.timer
  pins := by simpa only [PinsOk, hh, hp] using h.pins
  history := by simpa only [HistoryOk, hh, hb] using h.history

theorem respond {op : Byte} {st : Status} {v : Half} (h : LinkCore s) : LinkCore (respond op st v s) :=
  h.congr (by simp) (by simp) (by simp) (by simp) (by simp) (by simp) (by simp)

theorem emit {e : Event} (h : LinkCore s) : LinkCore (emit e s) :=
  h.congr (by simp) (by simp) (by simp) (by simp) (by simp) (by simp) (by simp)

/-- Unconnected, the RX-single timer is at rest. -/
theorem timer_of_unconnected (h : LinkCore s) (hc : s.eng.connected = false) :
    s.rxs.fired = false ∧ s.rxs.cnt = 0 := by
  have hrest : ¬(s.rxs.fired = true ∨ s.rxs.cnt ≠ 0) := fun ht => Bool.false_ne_true (hc.symm.trans (h.timer ht).1)
  rw [not_or, not_not] at hrest
  exact ⟨by simpa using hrest.1, hrest.2⟩

/-- A transfer with the handles open. -/
theorem afterBus (h : LinkCore s) (hh : s.eng.handles = true) {e : BusEvent} (he : isTransfer e = true) :
    LinkCore (afterBus s [e]) where
  connected := h.connected
  mode := h.mode
  timer := h.timer
  pins := h.pins
  history := by
    have hs : historyOpen false s.bus = some true := h.history.trans (congrArg some hh)
    exact (historyOpen_transfer hs he).trans (congrArg some hh.symm)

/-- A mode write other than RXSINGLE cancels the RX-single timer (R140). -/
theorem setMode (h : LinkCore s) (hh : s.eng.handles = true) {md : Mode} (hmd : md ≠ .rxSingle) :
    LinkCore (setMode md s) where
  connected := h.connected
  mode _ := hh
  timer ht := by simp [Machine.setMode, hmd] at ht
  pins := h.pins
  history := h.history

/-- The RXSINGLE write with a connection loads the timer (R143). -/
theorem arm (h : LinkCore s) (hc : s.eng.connected = true) (n : Nat) :
    LinkCore (loadRxSingle n (Machine.setMode .rxSingle s)) where
  connected := h.connected
  mode _ := h.connected hc
  timer _ := ⟨hc, rfl⟩
  pins := h.pins
  history := h.history

/-- A level of `reset_n_o` with the handles open. -/
theorem driveReset (h : LinkCore s) (hh : s.eng.handles = true) (b : Bool) : LinkCore (drive .reset b s) where
  connected := h.connected
  mode := h.mode
  timer := h.timer
  pins := by
    have hpins := h.pins
    simp only [PinsOk, hh, if_true] at hpins
    obtain ⟨hcs, hsclk, hmosi, -⟩ := hpins
    have hh' : (drive .reset b s).eng.handles = true := hh
    simp only [PinsOk, hh', if_true]
    exact ⟨hcs, hsclk, hmosi, nofun⟩
  history := by
    have hs : historyOpen false s.bus = some s.eng.handles := h.history
    have hbus : (drive .reset b s).bus = s.bus ++ [.pin .reset (.driven b)] := rfl
    rw [HistoryOk, hbus, historyOpen_append, hs]
    rfl

/-- OpenHandles from closed handles (R105). -/
theorem openHandles (h : LinkCore s) (hh : s.eng.handles = false) : LinkCore (openHandles s) where
  connected _ := rfl
  mode _ := rfl
  timer := h.timer
  pins := by simp [PinsOk, Machine.openHandles, drive, record, setPin]
  history := by
    have hs : historyOpen false s.bus = some false := h.history.trans (congrArg some hh)
    have hbus : (Machine.openHandles s).bus = s.bus ++ [.pin .sclk (.driven false), .pin .mosi (.driven false),
        .pin .reset (.driven false), .pin .cs (.driven true)] := by
      simp [Machine.openHandles, drive, record]
    rw [HistoryOk, hbus, historyOpen_append, hs]
    rfl

/-- CloseHandles releases every pin (R105). -/
theorem closeHandles_history (h : LinkCore s) : historyOpen false (closeHandles s).bus = some false := by
  have hs : historyOpen false s.bus = some s.eng.handles := h.history
  have hbus : (closeHandles s).bus =
      s.bus ++ [.pin .cs .released, .pin .reset .released, .pin .mosi .released, .pin .sclk .released] := by
    simp [closeHandles, release, record]
  rw [hbus, historyOpen_append, hs]
  rfl

/-- The handles closed where they are open: what is left is closed. -/
theorem closeIfOpen_closed (h : LinkCore s) :
    (closeIfOpen s).eng.handles = false ∧
    (closeIfOpen s).pins = { cs := .released, rst := .released, sclk := .released, mosi := .released } ∧
    historyOpen false (closeIfOpen s).bus = some false := by
  unfold closeIfOpen
  split
  · exact ⟨rfl, rfl, h.closeHandles_history⟩
  · rename_i hh
    have hh : s.eng.handles = false := by simpa using hh
    exact ⟨hh, by simpa [PinsOk, hh] using h.pins, by simpa [HistoryOk, hh] using h.history⟩

theorem disconnected (h : LinkCore s) : LinkCore (disconnected s) :=
  have hclosed := h.closeIfOpen_closed
  linkCore_closed hclosed.1 rfl rfl rfl rfl hclosed.2.1 hclosed.2.2

theorem disconnected_handles (h : LinkCore s) :
    (Machine.disconnected s).eng.handles = (Machine.disconnected s).eng.connected := h.closeIfOpen_closed.1

theorem dropLink (h : LinkCore s) : LinkCore (dropLink s) :=
  have hclosed := h.closeIfOpen_closed
  linkCore_closed hclosed.1 rfl rfl rfl rfl hclosed.2.1 hclosed.2.2

end LinkCore

/-! #### What x[PC] says of the link -/

/-- What the passed steps of a command say of handles and connection (R120, R153), at step `k`. -/
def linkAt (i : Instr) (k : Nat) (handles connected : Bool) : Bool :=
  ((begins i && decide (3 < k)) || handles == connected) && (!begins i || decide (k < 2) || !connected) &&
  (!begins i || decide (k < 4) || handles) && (!needsChip i || decide (k < 2) || connected)

theorem pcLinkOk_run {m : Msg} {i : Instr} {k : Nat} {s : State} (hi : msgInstr m = some i)
    (hpc : s.eng.pc = .run m k) : pcLinkOk s = linkAt i k s.eng.handles s.eng.connected := by
  have hedge : m ≠ .edge := by rintro rfl; cases hi
  cases m
  case edge => exact absurd rfl hedge
  all_goals cases i <;> simp [pcLinkOk, hpc, hi, linkAt, begins, needsChip]

theorem linkAt_iff {i : Instr} {k : Nat} {h c : Bool} :
    linkAt i k h c = true ↔
      ((begins i = true ∧ 3 < k) ∨ h = c) ∧ (begins i = true → k < 2 ∨ c = false) ∧
      (begins i = true → k < 4 ∨ h = true) ∧ (needsChip i = true → k < 2 ∨ c = true) := by
  simp [linkAt, and_assoc, or_assoc, imp_iff_not_or]

theorem pastLink_iff {i : Instr} {k : Nat} :
    pastLink i k = true ↔ (needsChip i = true ∧ 2 ≤ k) ∨ (begins i = true ∧ 4 ≤ k) := by
  simp [pastLink]

theorem begins_of_needsChip {i : Instr} (h : needsChip i = true) : begins i = false := by
  cases i <;> simp_all [begins, needsChip]

/-- Past the link, the handles are open. -/
theorem handles_of_linkAt {i : Instr} {k : Nat} {h c : Bool} (hl : linkAt i k h c = true)
    (hp : pastLink i k = true) : h = true := by
  obtain ⟨hsame, -, hopen, hchip⟩ := linkAt_iff.mp hl
  rcases pastLink_iff.mp hp with ⟨hn, hk⟩ | ⟨hb, hk⟩
  · have hc : c = true := (hchip hn).resolve_left (by omega)
    simpa [begins_of_needsChip hn, hc] using hsame
  · exact (hopen hb).resolve_left (by omega)

/-- A move keeps what x[PC] says of the link. -/
theorem linkAt_moves {p : Config.Params} {i : Instr} {k j : Nat} {h c : Bool} (hm : Moves p i k j)
    (hl : linkAt i k h c = true) : linkAt i j h c = true := by
  obtain ⟨hsame, hbegin, hopen, hchip⟩ := linkAt_iff.mp hl
  have hpast (hn : (needsChip i || begins i) = true) := hm.past hn
  simp only [pastLink_iff] at hpast
  rw [linkAt_iff]
  rcases hb : begins i with _ | _
  · simp only [hb, Bool.or_false, Bool.false_eq_true, false_and, false_or, or_false] at hsame hpast
    exact ⟨.inr hsame, nofun, nofun, fun hn => .inr ((hchip hn).resolve_left (by have := (hpast hn).1; omega))⟩
  · have hn : needsChip i = false := by
      by_contra hn
      simp [begins_of_needsChip (by simpa using hn)] at hb
    obtain ⟨hk, hj⟩ := hpast (by simp [hb])
    simp only [hn, hb, Bool.false_eq_true, false_and, true_and, false_or] at hk hj
    exact ⟨.inl ⟨rfl, by omega⟩, fun _ => .inr ((hbegin hb).resolve_left (by omega)),
      fun _ => .inr ((hopen hb).resolve_left (by omega)), by simp [hn]⟩

/-- A command past its connection check stays connected, wherever it goes on. -/
theorem linkAt_of_needsChip {i : Instr} {k : Nat} {h c : Bool} (hn : needsChip i = true) (hk : 2 ≤ k)
    (hl : linkAt i k h c = true) (j : Nat) : linkAt i j h c = true := by
  have hb := begins_of_needsChip hn
  obtain ⟨hsame, -, -, hchip⟩ := linkAt_iff.mp hl
  rw [linkAt_iff]
  simp only [hb, Bool.false_eq_true, false_and, false_or] at hsame ⊢
  exact ⟨hsame, nofun, nofun, fun _ => .inr ((hchip hn).resolve_left (by omega))⟩

/-- Handles and connection agree where a command answers, but for BEGIN past OpenHandles. -/
theorem same_of_linkAt {i : Instr} {k : Nat} {h c : Bool} (hl : linkAt i k h c = true)
    (hb : begins i = true → k ≤ 3) : h = c :=
  (linkAt_iff.mp hl).1.resolve_left fun ⟨hbegins, hk⟩ => by have := hb hbegins; omega

/-! #### The commands and the tokens -/

/-- A Reply leaves the link consistent, and the handles open exactly with a connection. -/
theorem linkCore_replyUpd {i : Instr} {k : Nat} {s u : State} (hu : ReplyUpd i k s u) (h : LinkCore s)
    (hl : linkAt i k s.eng.handles s.eng.connected = true) : LinkCore u ∧ u.eng.handles = u.eng.connected := by
  have hsame (hb : begins i = false) : s.eng.handles = s.eng.connected := same_of_linkAt hl (by simp [hb])
  cases hu with
  | nothing hb => exact ⟨h, same_of_linkAt hl fun hbegins => (hb hbegins).trans (by omega)⟩
  | rejects hi hk =>
    have hc : s.eng.connected = false := ((linkAt_iff.mp hl).2.1 hi).resolve_left (by omega)
    obtain ⟨hf, hn⟩ := h.timer_of_unconnected hc
    exact ⟨linkCore_closed rfl hc rfl hf hn rfl h.closeHandles_history, hc.symm⟩
  | connects f hi hk =>
    subst hi
    have hh : s.eng.handles = true := ((linkAt_iff.mp hl).2.2.1 rfl).resolve_left (by omega)
    have hc : s.eng.connected = false := ((linkAt_iff.mp hl).2.1 rfl).resolve_left (by omega)
    refine ⟨⟨fun _ => hh, h.mode, fun ht => ?_, h.pins, h.history⟩, hh⟩
    exact absurd (h.timer ht).1 (by simp [hc])
  | shadows f hi => exact ⟨h.congr, hsame (begins_of_shadowOf hi)⟩
  | resets hi =>
    subst hi
    exact ⟨⟨h.connected, fun hm => absurd rfl hm, fun ht => by simp [resetDone] at ht, h.pins, h.history⟩, hsame rfl⟩
  | disconnects => exact ⟨h.disconnected, h.disconnected_handles⟩
  | subscribes id' on hi => exact ⟨h.congr, hsame (by rcases hi with rfl | rfl <;> rfl)⟩
  | sends n st kind hi => exact ⟨h.emit, by simpa using hsame (by rw [hi]; rfl)⟩
  | starts lp ld delay plen hi => exact ⟨h.congr, hsame (by rw [hi]; rfl)⟩
  | stops hi =>
    unfold echoStopped
    split <;> exact ⟨h.congr, hsame (by rw [hi]; rfl)⟩

/-- The link's invariant: its consistency, and what x[PC] says of it. -/
def LinkInv (s : State) : Prop := LinkCore s ∧ pcLinkOk s = true

theorem linkInv_idle {s : State} (h : LinkCore s) (hs : s.eng.handles = s.eng.connected) :
    LinkInv (setPc .idle s) :=
  ⟨h.congr, by simpa [pcLinkOk] using hs⟩

/-- Every atomic action of a command keeps the link: transfers are made past the link, with the handles open. -/
theorem linkInv_cmdStep {c : Config.Params} {i : Instr} {m : Msg} {k : Nat} {s t : State} (hi : msgInstr m = some i)
    (ht : CmdStep c i m k s t) (h : LinkCore s) (hl : linkAt i k s.eng.handles s.eng.connected = true) :
    LinkInv t := by
  have hrun {j : Nat} {u : State} (hu : LinkCore u) (hlu : linkAt i j u.eng.handles u.eng.connected = true) :
      LinkInv (setPc (.run m j) u) := ⟨hu.congr, (pcLinkOk_run hi rfl).trans hlu⟩
  have hfailed {u : State} (hu : LinkCore u) (hlu : linkAt i k u.eng.handles u.eng.connected = true) :
      LinkInv (setPc (.failed m) u) := by
    refine ⟨hu.congr, ?_⟩
    cases hb : begins i
    · simpa [pcLinkOk] using .inr (same_of_linkAt hlu (by simp [hb]))
    · have hm : isBegin m = true := by cases i <;> simp_all [isBegin, begins]
      simp [pcLinkOk, hm]
  have hopen (hp : pastLink i k = true) : s.eng.handles = true := handles_of_linkAt hl hp
  cases ht with
  | checked hk hlast hconn hbegin =>
    obtain ⟨hsame, hb, hh, hchip⟩ := linkAt_iff.mp hl
    refine hrun h (linkAt_iff.mpr ⟨.inr (hsame.resolve_left (by omega)), fun hi' => .inr ?_, fun _ => .inl (by omega),
      fun hn => .inr ?_⟩)
    · exact (hb hi').elim (fun h2 => hbegin h2 hi') id
    · exact (hchip hn).elim (fun h2 => hconn h2 hn) id
  | replies op st v u hroom hu =>
    obtain ⟨hcore, hs⟩ := linkCore_replyUpd hu h hl
    exact linkInv_idle hcore.respond (by simpa using hs)
  | fails e he hp => exact hfailed (h.afterBus (hopen hp) he) hl
  | works j w hm => exact hrun h.congr (linkAt_moves hm hl)
  | transfers j e w he hp hm =>
    exact hrun ((h.afterBus (hopen hp) he).congr) (linkAt_moves hm hl)
  | modes e md he hp hm hmd =>
    exact hrun ((h.afterBus (hopen hp) he).setMode (hopen hp) (by rcases hmd with rfl | rfl | rfl <;> simp))
      (linkAt_moves hm hl)
  | arms n e hi' hk he =>
    subst hi' hk
    have hc : s.eng.connected = true := ((linkAt_iff.mp hl).2.2.2 rfl).resolve_left (by omega)
    exact hrun ((h.afterBus (hopen rfl) he).arm hc n) (linkAt_of_needsChip rfl (by omega) hl 8)
  | opens f hi' hk =>
    subst hi' hk
    have hc : s.eng.connected = false := ((linkAt_iff.mp hl).2.1 rfl).resolve_left (by omega)
    have hh : s.eng.handles = false := (same_of_linkAt hl fun _ => le_rfl).trans hc
    exact hrun (h.openHandles hh) (by simp [linkAt, begins, needsChip, hc])
  | drives b hp hm => exact hrun (h.driveReset (hopen hp) b) (linkAt_moves hm hl)
  | loadsWait ms hi' hm => exact hrun h.congr (linkAt_moves hm hl)
  | entersTxWait n e hi' hk he =>
    subst hi' hk
    have hmode := (h.afterBus (hopen rfl) he).setMode (hopen rfl) (md := .tx) (by simp)
    exact hrun hmode.congr (linkAt_of_needsChip rfl (by omega) hl 9)
  | polls n j e w hi' hk hj he =>
    subst hi' hk
    exact hrun (h.afterBus (hopen rfl) he).congr (linkAt_of_needsChip rfl (by omega) hl j)
  | pollFails n e hi' hk he =>
    subst hi' hk
    exact hfailed ((h.afterBus (hopen rfl) he).congr) hl
  | leavesTxWait n e hi' hk he =>
    subst hi'
    have hh := hopen (by rcases hk with rfl | rfl <;> rfl)
    have hmode := (h.afterBus hh he).setMode hh (md := .standby) (by simp)
    exact hrun hmode.congr (linkAt_of_needsChip rfl (by omega) hl _)
  | copies lp ld delay plen j x b w hi' hm => exact hrun h.congr (linkAt_moves hm hl)
  | loadsEcho lp ld delay plen n d hi' hm => exact hrun h.congr (linkAt_moves hm hl)

/-- What x[PC] says of the link in a dispatch (R170). -/
theorem pcLinkOk_edge {k : Nat} {s : State} (hpc : s.eng.pc = .run .edge k) :
    pcLinkOk s = true ↔ s.eng.handles = s.eng.connected ∧ (k < 2 ∨ s.eng.connected = true) := by
  simp [pcLinkOk, hpc]

theorem linkInv_edgeStep {k : Nat} {s t : State} (hpc : s.eng.pc = .run .edge k) (ht : EdgeStep k s t)
    (h : LinkInv s) : LinkInv t := by
  obtain ⟨hcore, hl⟩ := h
  obtain ⟨hsame, hconn⟩ := (pcLinkOk_edge hpc).mp hl
  have hc (hk : 2 ≤ k) : s.eng.connected = true := hconn.resolve_left (by omega)
  have hh (hk : 2 ≤ k) : s.eng.handles = true := hcore.connected (hc hk)
  have hrun {j : Nat} {u : State} (hu : LinkCore u) (hs : u.eng.handles = u.eng.connected)
      (hcu : u.eng.connected = true) : LinkInv (setPc (.run .edge j) u) :=
    ⟨hu.congr, (pcLinkOk_edge rfl).mpr ⟨hs, .inr hcu⟩⟩
  cases ht with
  | connected hk hc => exact hrun hcore hsame hc
  | ends => exact linkInv_idle hcore hsame
  | fails e he hk => exact ⟨(hcore.afterBus (hh hk) he).congr, by simpa [pcLinkOk] using .inr hsame⟩
  | works j w hk => exact hrun hcore.congr hsame (hc hk)
  | transfers j e w he hk => exact hrun (hcore.afterBus (hh hk) he).congr hsame (hc hk)
  | emits hk => exact hrun hcore.emit (by simpa using hsame) (by simpa using hc (by omega))
  | endsWindow e he hk =>
    exact linkInv_idle ((hcore.afterBus (hh hk) he).setMode (hh hk) (by simp)) hsame
  | clears e he hk => exact linkInv_idle (hcore.afterBus (hh hk) he) hsame

/-- An RXTMO token whose timer has fired finds the chip connected (R144). -/
theorem linkInv_rxtmoStep {s t : State} (hs : s.eng.handles = s.eng.connected) (ht : RxtmoStep s t)
    (h : LinkCore s) : LinkInv t := by
  have hfired : LinkCore (clearFired s) :=
    ⟨h.connected, h.mode, fun ht => h.timer (ht.imp_left fun hf => absurd hf (by simp [clearFired])), h.pins, h.history⟩
  have hh (hf : s.rxs.fired = true) : s.eng.handles = true := h.connected (h.timer (.inl hf)).1
  cases ht with
  | stale => exact linkInv_idle h hs
  | fails e he hf =>
    exact ⟨(hfired.afterBus (hh hf) he).congr, by simpa [pcLinkOk, clearFired] using .inr hs⟩
  | standby e he hf => exact linkInv_idle ((hfired.afterBus (hh hf) he).setMode (hh hf) (by simp)) hs

/-- Outside a message with an instruction, handles and connection agree. -/
theorem same_of_pcLinkOk {m : Msg} {k : Nat} {s : State} (hi : msgInstr m = none) (hpc : s.eng.pc = .run m k)
    (h : pcLinkOk s = true) : s.eng.handles = s.eng.connected := by
  cases m <;> simp_all [pcLinkOk]

theorem linkInv_msgStep {m : Msg} {k : Nat} {s t : State} (hpc : s.eng.pc = .run m k) (ht : MsgStep m k s t)
    (h : LinkInv s) : LinkInv t := by
  obtain ⟨i, hi, ht⟩ | ⟨w, op, hm, hi, hroom⟩ | ⟨rfl, ht⟩ | ⟨rfl, ht⟩ := ht
  · exact linkInv_cmdStep hi ht h.1 (pcLinkOk_run hi hpc ▸ h.2)
  · exact linkInv_idle h.1.respond (by simpa using same_of_pcLinkOk hi hpc h.2)
  · exact linkInv_edgeStep hpc ht h
  · exact linkInv_rxtmoStep (same_of_pcLinkOk rfl hpc h.2) ht h.1

theorem linkInv_ioErrorEffect (op : Option Byte) {s : State} (h : LinkInv s) : LinkInv (ioErrorEffect op s) := by
  have hdrop := h.1.dropLink
  have hs : (dropLink s).eng.handles = (dropLink s).eng.connected := h.1.closeIfOpen_closed.1
  rw [ioErrorEffect_eq]
  rcases ioErrorBody_cases op s with ⟨-, hb⟩ | ⟨o, -, ⟨-, hb⟩ | ⟨-, hb⟩⟩ <;> rw [hb]
  · exact linkInv_idle hdrop hs
  · exact linkInv_idle hdrop.respond (by simpa using hs)
  · exact linkInv_idle hdrop.respond.emit (by simpa using hs)

theorem linkInv_take {m : Msg} {rest : List Msg} {s : State} (hpc : s.eng.pc = .idle) (h : LinkInv s) :
    LinkInv (take m rest s) := by
  obtain ⟨hcore, hl⟩ := h
  have hs : s.eng.handles = s.eng.connected := by simpa [pcLinkOk, hpc] using hl
  have hh : (take m rest s).eng.handles = s.eng.handles := by cases m <;> rfl
  have hc : (take m rest s).eng.connected = s.eng.connected := by cases m <;> rfl
  have htaken : LinkCore (take m rest s) := by cases m <;> exact hcore.congr
  refine ⟨htaken, ?_⟩
  rcases hi : msgInstr m with _ | i
  · cases m <;> simp_all [pcLinkOk, take_eng_pc]
  · rw [pcLinkOk_run hi (take_eng_pc m rest s), hh, hc, linkAt_iff]
    exact ⟨.inr hs, fun _ => .inl (by omega), fun _ => .inl (by omega), fun _ => .inl (by omega)⟩

/-! #### The other agents -/

/-- Where an agent leaves the engine alone and the RX-single timer too, the link stays. -/
theorem linkInv_of_leaves {s t : State} (hl : LeavesEngine s t) (hf : t.rxs.fired = s.rxs.fired)
    (hn : t.rxs.cnt = s.rxs.cnt) (h : LinkInv s) : LinkInv t :=
  ⟨h.1.congr hl.handles hl.connected hl.mode hf hn hl.pins hl.bus,
    by simpa only [pcLinkOk, hl.pc, hl.handles, hl.connected] using h.2⟩

/-- A tick lets the RX-single timer expire only where it runs (R113). -/
theorem linkInv_timerTick {s : State} (h : LinkInv s) : LinkInv (timerTick s) := by
  have hl := leavesEngine_timerTick s
  have hrxs : (timerTick s).rxs = (tickRxSingle s).rxs := by rw [timerTick_eq]
  have hcount (hn : countDown s.rxs.cnt ≠ 0) : s.rxs.cnt ≠ 0 := fun h0 => hn (by simp [countDown, h0])
  have htimer : (timerTick s).rxs.fired = true ∨ (timerTick s).rxs.cnt ≠ 0 → s.rxs.fired = true ∨ s.rxs.cnt ≠ 0 := by
    rw [hrxs]
    rcases tickRxSingle_cases s with ⟨-, -, ht⟩ | ⟨he, -, ht⟩ <;> rw [ht]
    · exact Or.imp_right hcount
    · intro _
      have hone : s.rxs.cnt = 1 := by simpa [expires] using he
      exact .inr (by simp [hone])
  obtain ⟨⟨hconn, hmode, hrest, hpins, hhist⟩, hpc⟩ := h
  refine ⟨⟨?_, ?_, fun ht => ?_, ?_, ?_⟩, ?_⟩
  · rwa [hl.connected, hl.handles]
  · rwa [hl.mode, hl.handles]
  · rw [hl.connected, hl.mode]
    exact hrest (htimer ht)
  · simpa only [PinsOk, hl.handles, hl.pins] using hpins
  · simpa only [HistoryOk, hl.handles, hl.bus] using hhist
  · simpa only [pcLinkOk, hl.pc, hl.handles, hl.connected] using hpc

theorem routeEdge_rxs (s : State) : (routeEdge s).rxs = s.rxs := by
  rcases routeEdge_cases s with ⟨-, h⟩ | ⟨-, h⟩ | ⟨-, h⟩ <;> rw [h]

theorem edgeTurn_rxs (s : State) : (edgeTurn s).rxs = s.rxs := by
  rcases edgeTurn_cases s with h | h <;> rw [h]
  exact routeEdge_rxs s

theorem clkTurn_rxs (b : Bool) (s : State) : (clkTurn b s).rxs = s.rxs := by
  rcases clkTurn_cases b s with h | h <;> rw [h]
  · exact routeEdge_rxs (shiftDio b s)
  · rfl

theorem hostWrite_rxs (a : BusAddr) (d : Word) (s : State) : (hostWrite a d s).rxs = s.rxs := by
  rcases hostWrite_cases a d s with ⟨-, -, h⟩ | ⟨_, h⟩ | ⟨_, -, h⟩ <;> rw [h]

theorem hostRead_rxs (a : BusAddr) (s : State) : (hostRead a s).rxs = s.rxs := by
  obtain ⟨_, _, _, _, -, -, h⟩ := hostRead_cases a s
  rw [h]

theorem handleEqHead_rxs (s : State) : (handleEqHead s).rxs = s.rxs := by
  rcases handleEqHead_cases s with h | ⟨x, rest, -, h | ⟨-, -, -, h⟩ | ⟨-, -, -, h⟩⟩ <;> rw [h]
  · unfold onRxFrame
    split <;> rfl
  · unfold onTxEvent
    split <;> rfl

theorem echoStep_rxs (pick : Config.EchoPick) (s : State) : (echoStep pick s).rxs = s.rxs := by
  rcases echoStep_cases pick s with h | ⟨-, -, h⟩ | ⟨-, -, -, h⟩ | ⟨-, -, h⟩ | ⟨-, -, h | h | h⟩ <;> rw [h]
  · rw [consumeReply_eq]
  · rfl
  · rfl
  · unfold armExpiry
    split <;> rfl
  · unfold echoExpiry
    split <;> rfl
  · exact handleEqHead_rxs s

theorem linkInv_stepKeeps : StepKeeps LinkInv where
  toEngineKeeps := .of_msgStep (fun _ _ h => ⟨h.1.congr, h.2⟩) (fun _ _ _ hpc _ h => linkInv_take hpc h)
    (fun _ _ _ _ hpc _ ht h => linkInv_msgStep hpc ht h) (fun _ _ _ _ h => linkInv_ioErrorEffect _ h)
  tick _ h := linkInv_timerTick h
  echo p s h := linkInv_of_leaves (leavesHostSide_echoStep p s).toLeavesEngine (by rw [echoStep_rxs])
    (by rw [echoStep_rxs]) h
  edge s h := linkInv_of_leaves (leavesEngine_edgeTurn s) (by rw [edgeTurn_rxs]) (by rw [edgeTurn_rxs]) h
  clk b s h := linkInv_of_leaves (leavesEngine_clkTurn b s) (by rw [clkTurn_rxs]) (by rw [clkTurn_rxs]) h
  hostWrite a d s h :=
    linkInv_of_leaves (leavesEngine_hostWrite a d s) (by rw [hostWrite_rxs]) (by rw [hostWrite_rxs]) h
  hostRead a s h := linkInv_of_leaves (leavesEngine_hostRead a s) (by rw [hostRead_rxs]) (by rw [hostRead_rxs]) h
  reset _ _ := ⟨linkCore_closed rfl rfl rfl rfl rfl rfl rfl, rfl⟩

theorem linkInv_iff (s : State) : LinkInv s ↔ LinkOk s ∧ HistoryOk s := by
  constructor
  · rintro ⟨⟨hconn, hmode, htimer, hpins, hhist⟩, hpc⟩
    exact ⟨⟨hconn, hmode, htimer, hpins, hpc⟩, hhist⟩
  · rintro ⟨⟨hconn, hmode, htimer, hpins, hpc⟩, hhist⟩
    exact ⟨⟨hconn, hmode, htimer, hpins, hhist⟩, hpc⟩

end Sys2Proof.Machine

namespace Sys2Proof.Proofs

open Sys2Proof.Machine Sys2Proof.Safety

/-- Settles O53: a transfer is made past the link only, where what x[PC] says of it has the handles open. -/
theorem stepKeepsLink : Obligations.StepKeepsLink := fun s t hs hh h =>
  (linkInv_iff t).mp (linkInv_stepKeeps.step ((linkInv_iff s).mpr ⟨hs, hh⟩) h)

end Sys2Proof.Proofs
end

/-! ### Tokens of INQ, the one echo call, and the sequencer's invariants -/

section

namespace Sys2Proof.Machine

open Sys2Proof.Safety

/-! #### Who is answered -/

/-- A Reply makes RPL valid for an echo call, and leaves it for the host (R221). -/
theorem respond_rpl_valid (op : Byte) (st : Status) (v : Half) (s : State) :
    (respond op st v s).rpl.valid = (fromEcho s || s.rpl.valid) := by
  rcases ho : s.eng.origin with _ | sess
  · rw [respond_toHost op st v s ho]
    simp [fromEcho, ho]
  · rw [respond_toCall op st v s sess ho]
    simp [fromEcho, ho]

/-- A command being executed is an echo call exactly where its origin is the sequencer (R27). -/
theorem fromEcho_eq_isCall {m : Msg} {s : State} (hm : runningMsg s = some m) (hop : msgOpcode m ≠ none)
    (ho : originOk s = true) : fromEcho s = isCall m := by
  cases m
  case edge | rxtmo => exact absurd rfl hop
  all_goals
    have horigin := ho
    simp only [originOk, hm, beq_iff_eq] at horigin
    simp [fromEcho, horigin, isCall]

theorem msgOpcode_of_msgInstr {m : Msg} {i : Instr} (h : msgInstr m = some i) : msgOpcode m ≠ none := by
  rcases m with w | ⟨_ | _, arg, sess⟩ | _ | _ <;> simp_all [msgInstr, msgOpcode]

/-- An action leaves its message running with RPL as it was, or ends it; a command ends with a Reply, which makes RPL
valid for an echo call. -/
def EndsOrRuns (m : Msg) (s t : State) : Prop :=
  (runningMsg t = some m ∧ t.rpl = s.rpl) ∨ (t.eng.pc = .idle ∧ t.rpl.valid = (isCall m || s.rpl.valid))

theorem CmdStep.endsOrRuns {c : Config.Params} {i : Instr} {m : Msg} {k : Nat} {s t : State}
    (h : CmdStep c i m k s t) (hcall : fromEcho s = isCall m) : EndsOrRuns m s t := by
  cases h with
  | replies op st v u hroom hu =>
    obtain ⟨hframe, -, hrpl⟩ := hu.framed
    refine .inr ⟨rfl, ?_⟩
    rw [setPc_rpl, respond_rpl_valid, hrpl, ← hcall, fromEcho, fromEcho, hframe.origin]
  | _ => exact .inl ⟨rfl, rfl⟩

theorem MsgStep.endsOrRuns {m : Msg} {k : Nat} {s t : State} (h : MsgStep m k s t) (hpc : s.eng.pc = .run m k)
    (ho : originOk s = true) : EndsOrRuns m s t := by
  have hm : runningMsg s = some m := by simp only [runningMsg, hpc]
  obtain ⟨i, hi, h⟩ | ⟨w, op, rfl, -, -⟩ | ⟨rfl, h⟩ | ⟨rfl, h⟩ := h
  · exact h.endsOrRuns (fromEcho_eq_isCall hm (msgOpcode_of_msgInstr hi) ho)
  · refine .inr ⟨rfl, ?_⟩
    rw [setPc_rpl, respond_rpl_valid, fromEcho_eq_isCall hm nofun ho]
  · cases h with
    | ends | endsWindow | clears => exact .inr ⟨rfl, rfl⟩
    | emits => exact .inl ⟨rfl, by simp⟩
    | _ => exact .inl ⟨rfl, rfl⟩
  · cases h with
    | fails => exact .inl ⟨rfl, rfl⟩
    | _ => exact .inr ⟨rfl, rfl⟩

theorem ioErrorEffect_endsOrRuns {m : Msg} {s : State} (hm : runningMsg s = some m) (ho : originOk s = true) :
    EndsOrRuns m s (ioErrorEffect (msgOpcode m) s) := by
  rw [ioErrorEffect_eq]
  refine .inr ⟨rfl, ?_⟩
  have hrpl : (dropLink s).rpl = s.rpl := by simp [dropLink]
  have horigin : (dropLink s).eng.origin = s.eng.origin := (regularUpd_dropLink.frame s).origin
  rw [setPc_rpl]
  rcases ioErrorBody_cases (msgOpcode m) s with ⟨hop, hb⟩ | ⟨o, hop, ⟨-, hb⟩ | ⟨-, hb⟩⟩ <;> rw [hb]
  · have hcall : isCall m = false := by rcases m with w | ⟨_ | _, arg, sess⟩ | _ | _ <;> simp_all [msgOpcode, isCall]
    rw [hrpl, hcall, Bool.false_or]
  all_goals
    have hcall := fromEcho_eq_isCall hm (by simp [hop]) ho
  · rw [respond_rpl_valid, hrpl, fromEcho, horigin, ← hcall, fromEcho]
  · rw [emit_rpl, respond_rpl_valid, hrpl, fromEcho, horigin, ← hcall, fromEcho]

/-! #### Tokens and calls -/

/-- The invariant of tokens and calls, with each flag as the number of its tokens. -/
structure TokensInv (s : State) : Prop where
  edge : s.inq.count .edge = s.dio.queued.toNat
  rxtmo : s.inq.count .rxtmo = s.rxs.queued.toNat
  calls : s.inq.countP isCall + ((callRunning s).toNat + s.rpl.valid.toNat) = (s.eseq.await != .none).toNat
  origin : originOk s = true

theorem tokensInv_iff (s : State) : TokensInv s ↔ TokensOk s := by
  have hflag (b : Bool) : (if b = true then 1 else 0) = b.toNat := by cases b <;> rfl
  have hawait : (if s.eseq.await = .none then 0 else 1) = (s.eseq.await != .none).toNat := by
    cases s.eseq.await <;> rfl
  rw [TokensOk, hflag, hflag, hflag, hflag, hawait, Nat.add_assoc]
  exact ⟨fun ⟨h1, h2, h3, h4⟩ => ⟨h1, h2, h3, h4⟩, fun ⟨h1, h2, h3, h4⟩ => ⟨h1, h2, h3, h4⟩⟩

theorem callRunning_of_runningMsg {m : Msg} {s : State} (h : runningMsg s = some m) : callRunning s = isCall m := by
  rw [callRunning, h]
  rfl

theorem callRunning_of_idle {s : State} (h : s.eng.pc = .idle) : callRunning s = false := by
  rw [callRunning, runningMsg, h]
  rfl

/-- An action of the message being executed keeps the tokens and the call (R207). -/
theorem tokensInv_of_endsOrRuns {m : Msg} {s t : State} (hm : runningMsg s = some m) (hf : Framed s t)
    (ht : EndsOrRuns m s t) (h : TokensInv s) : TokensInv t where
  edge := by rw [hf.inq, hf.edgeQueued, h.edge]
  rxtmo := by rw [hf.inq, hf.rxtmoQueued, h.rxtmo]
  calls := by
    have hcalls := h.calls
    have hle : (s.eseq.await != .none).toNat ≤ 1 := Bool.toNat_le _
    rw [callRunning_of_runningMsg hm] at hcalls
    rw [hf.inq, hf.eseq]
    rcases ht with ⟨hrun, hrpl⟩ | ⟨hidle, hvalid⟩
    · rw [callRunning_of_runningMsg hrun, hrpl, hcalls]
    · rw [callRunning_of_idle hidle, hvalid, ← hcalls]
      cases hc : isCall m <;> cases hv : s.rpl.valid <;> simp [hc, hv] at hcalls ⊢
      omega
  origin := by
    rcases ht with ⟨hrun, -⟩ | ⟨hidle, -⟩
    · simpa only [originOk, hrun, hm, hf.origin] using h.origin
    · simp only [originOk, runningMsg, hidle]

theorem tokensInv_take {m : Msg} {rest : List Msg} {s : State} (hpc : s.eng.pc = .idle) (hq : s.inq = m :: rest)
    (h : TokensInv s) : TokensInv (take m rest s) := by
  have hrun : runningMsg (take m rest s) = some m := by simp only [runningMsg, take_eng_pc]
  have hinq : (take m rest s).inq = rest := by cases m <;> rfl
  obtain ⟨hedge, hrxtmo, hcalls, -⟩ := h
  rw [hq] at hedge hrxtmo hcalls
  rw [callRunning_of_idle hpc] at hcalls
  refine ⟨?_, ?_, ?_, ?_⟩
  · rw [hinq]
    have hle := Bool.toNat_le s.dio.queued
    cases m <;> simp [take] at hedge ⊢ <;> omega
  · rw [hinq]
    have hle := Bool.toNat_le s.rxs.queued
    cases m <;> simp [take] at hrxtmo ⊢ <;> omega
  · rw [hinq, callRunning_of_runningMsg hrun, take_rpl, take_eseq, ← hcalls]
    cases m <;> simp [isCall, List.countP_cons, Nat.add_comm, Nat.add_left_comm]
  · simp only [originOk, hrun]
    cases m <;> simp [take]

/-- What an agent that leaves the engine alone must keep of the rest. -/
theorem tokensInv_of_leaves {s t : State} (hl : LeavesEngine s t)
    (hedge : s.inq.count .edge = s.dio.queued.toNat → t.inq.count .edge = t.dio.queued.toNat)
    (hrxtmo : s.inq.count .rxtmo = s.rxs.queued.toNat → t.inq.count .rxtmo = t.rxs.queued.toNat)
    (hcalls : ∀ r, s.inq.countP isCall + (r + s.rpl.valid.toNat) = (s.eseq.await != .none).toNat →
      t.inq.countP isCall + (r + t.rpl.valid.toNat) = (t.eseq.await != .none).toNat)
    (h : TokensInv s) : TokensInv t := by
  have hrun : runningMsg t = runningMsg s := by simp only [runningMsg, hl.pc]
  have hrunning : callRunning t = callRunning s := by rw [callRunning, hrun, callRunning]
  have horigin : originOk t = originOk s := by rw [originOk, hrun, hl.origin, originOk]
  exact ⟨hedge h.edge, hrxtmo h.rxtmo, by rw [hrunning]; exact hcalls _ h.calls, horigin.trans h.origin⟩

theorem tokensInv_routeEdge {s : State} (h : TokensInv s) : TokensInv (routeEdge s) := by
  refine tokensInv_of_leaves (leavesEngine_routeEdge s) ?_ ?_ ?_ h <;>
    rcases routeEdge_cases s with ⟨-, he⟩ | ⟨-, he⟩ | ⟨hq, he⟩ <;> rw [he]
  case refine_1.inr.inr => simp [hq]
  all_goals simp [isCall]

theorem tokensInv_timerTick {s : State} (h : TokensInv s) : TokensInv (timerTick s) := by
  refine tokensInv_of_leaves (leavesEngine_timerTick s) ?_ ?_ ?_ h <;> rw [timerTick_eq] <;>
    rcases tickRxSingle_cases s with ⟨-, hq, hr⟩ | ⟨-, hq, hr⟩ <;> simp only [hq, hr, tickEcho] <;>
    cases s.rxs.queued <;> simp [isCall]

theorem tokensInv_hostWrite (a : BusAddr) (d : Word) {s : State} (h : TokensInv s) : TokensInv (hostWrite a d s) := by
  refine tokensInv_of_leaves (leavesEngine_hostWrite a d s) ?_ ?_ ?_ h <;>
    rcases hostWrite_cases a d s with ⟨-, -, he⟩ | ⟨_, he⟩ | ⟨w, -, he⟩ <;> rw [he] <;> simp [isCall]

theorem tokensInv_hostRead (a : BusAddr) {s : State} (h : TokensInv s) : TokensInv (hostRead a s) := by
  refine tokensInv_of_leaves (leavesEngine_hostRead a s) ?_ ?_ ?_ h <;>
    obtain ⟨_, _, _, _, -, -, he⟩ := hostRead_cases a s <;> rw [he] <;> simp

theorem consumeReply_await (s : State) : (consumeReply s).eseq.await = .none := by
  unfold consumeReply onRecvReply onXmitReply loadArm
  split
  · split
    · rfl
    · split <;> rfl
    · split <;> rfl
  · rfl

/-- A posted call is the one that is awaited from then on (R199, R200). -/
theorem tokensInv_posts {s t : State} {op : CallOp} {arg sess : Word} (hl : LeavesEngine s t)
    (hinq : t.inq = s.inq ++ [.ecall op arg sess]) (hdio : t.dio = s.dio) (hrxs : t.rxs = s.rxs)
    (hrpl : t.rpl = s.rpl) (hfree : s.eseq.await = .none) (hawait : t.eseq.await ≠ .none) (h : TokensInv s) :
    TokensInv t := by
  refine tokensInv_of_leaves hl ?_ ?_ (fun r hr => ?_) h
  · simp [hinq, hdio]
  · simp [hinq, hrxs]
  · have hone : (t.eseq.await != .none) = true := by simpa using hawait
    simp only [hfree, bne_self_eq_false, Bool.toNat_false] at hr
    simp only [hinq, hrpl, hone, List.countP_append, List.countP_singleton, isCall, if_true, Bool.toNat_true]
    omega

theorem handleEqHead_tokens (s : State) :
    (handleEqHead s).inq = s.inq ∧ (handleEqHead s).dio = s.dio ∧ (handleEqHead s).rpl = s.rpl ∧
    (handleEqHead s).eseq.await = s.eseq.await := by
  rcases handleEqHead_cases s with h | ⟨x, rest, -, h | ⟨-, -, -, h⟩ | ⟨-, -, -, h⟩⟩ <;> rw [h]
  · exact ⟨rfl, rfl, rfl, rfl⟩
  · exact ⟨rfl, rfl, rfl, rfl⟩
  · unfold onRxFrame
    split <;> exact ⟨rfl, rfl, rfl, rfl⟩
  · unfold onTxEvent
    split <;> exact ⟨rfl, rfl, rfl, rfl⟩

theorem tokensInv_echoStep (pick : Config.EchoPick) {s : State} (h : TokensInv s) : TokensInv (echoStep pick s) := by
  have hl := (leavesHostSide_echoStep pick s).toLeavesEngine
  rcases echoStep_cases pick s with he | ⟨hawait, hvalid, he⟩ | ⟨-, -, -, he⟩ | ⟨-, -, he⟩ | ⟨hfree, -, he | he | he⟩ <;>
    rw [he] at hl ⊢
  · exact h
  · have hnone := consumeReply_await s
    rw [consumeReply_eq] at hl hnone ⊢
    refine tokensInv_of_leaves hl id id (fun r hr => ?_) h
    have hone : (s.eseq.await != .none) = true := by simpa using hawait
    rw [hvalid, hone] at hr
    rw [hnone]
    simp only [Bool.toNat_true, Bool.toNat_false, bne_self_eq_false] at hr ⊢
    omega
  · exact tokensInv_of_leaves hl id id (fun _ => id) h
  · exact tokensInv_of_leaves hl id id (fun _ => id) h
  · rcases armExpiry_cases s with ⟨-, he⟩ | he <;> rw [he] at hl ⊢
    · exact tokensInv_posts hl rfl rfl rfl rfl hfree (nofun : ¬ Await.recv = .none) h
    · exact tokensInv_of_leaves hl id id (fun _ => id) h
  · rcases echoExpiry_cases s with ⟨-, he⟩ | he <;> rw [he] at hl ⊢
    · exact tokensInv_posts hl rfl rfl rfl rfl hfree (nofun : ¬ Await.xmit = .none) h
    · exact tokensInv_of_leaves hl id id (fun _ => id) h
  · obtain ⟨hinq, hdio, hrpl, hawait⟩ := handleEqHead_tokens s
    exact tokensInv_of_leaves hl (by rw [hinq, hdio]; exact id) (by rw [hinq, handleEqHead_rxs]; exact id)
      (by rw [hinq, hrpl, hawait]; exact fun _ => id) h

theorem tokensInv_stepKeeps : StepKeeps TokensInv where
  toEngineKeeps := .of_msgStep (fun _ _ h => ⟨h.edge, h.rxtmo, h.calls, h.origin⟩)
    (fun _ _ _ hpc hq h => tokensInv_take hpc hq h)
    (fun _ _ _ _ hpc hf ht h =>
      tokensInv_of_endsOrRuns (by simp only [runningMsg, hpc]) hf (ht.endsOrRuns hpc h.origin) h)
    (fun m s hpc _ h => by
      have hm : runningMsg s = some m := by simp only [runningMsg, hpc]
      refine tokensInv_of_endsOrRuns hm ?_ (ioErrorEffect_endsOrRuns hm h.origin) h
      rw [ioErrorEffect_eq]
      exact ((regularUpd_ioErrorBody _).frame s).trans (framed_setPc _ _))
  tick _ h := tokensInv_timerTick h
  echo p _ h := tokensInv_echoStep p h
  edge s h := by
    rcases edgeTurn_cases s with he | he <;> rw [he]
    · exact tokensInv_routeEdge h
    · exact h
  clk b s h := by
    have hshift : TokensInv (shiftDio b s) := ⟨h.edge, h.rxtmo, h.calls, h.origin⟩
    rcases clkTurn_cases b s with he | he <;> rw [he]
    · exact tokensInv_routeEdge hshift
    · exact hshift
  hostWrite a d _ h := tokensInv_hostWrite a d h
  hostRead a _ h := tokensInv_hostRead a h
  reset _ _ := ⟨rfl, rfl, rfl, rfl⟩

end Sys2Proof.Machine
end

section

namespace Sys2Proof.Machine

open Sys2Proof.Safety

/-! #### The sequencer's own invariants -/

theorem le_satInc (v : Word) : v ≤ satInc v := by
  unfold satInc
  split
  · exact BitVec.le_refl v
  · bv_omega

theorem lt_satInc_or (v : Word) : v < satInc v ∨ satInc v = 0xFFFFFFFF := by
  unfold satInc
  split
  · exact .inr ‹_›
  · left
    bv_omega

/-- An echo counted stays within the frames counted, where there was room for it (R206). -/
theorem satInc_le {v w : Word} (h : v < w ∨ w = 0xFFFFFFFF) : satInc v ≤ w := by
  unfold satInc
  split <;> bv_omega

/-- `EchoOk`'s clauses about the sequencer, as a property of its registers beside x[E_RUN] and x[E_SESSION]. -/
structure SeqOk (run : Bool) (session : Word) (e : EchoSeq) : Prop where
  recv : e.await = .recv → e.state = .listening
  xmit : e.await = .xmit → e.state = .echoing
  call : e.await ≠ .none → e.callSess = e.seen
  active : run = true → e.seen = session → e.state ≠ .idle
  counts : e.txc ≤ e.rxc
  room : e.state = .echoing → e.await = .none → run = true → e.seen = session → e.txc < e.rxc ∨ e.rxc = 0xFFFFFFFF

theorem noControlPending_iff (s : State) :
    noControlPending s = true ↔
      (s.ectl.run = true → s.eseq.seen = s.ectl.session) ∧ (s.ectl.run = false → s.eseq.state = .idle) := by
  cases h : s.ectl.run <;> simp [noControlPending, h]

theorem sessionRuns_iff (s : State) :
    sessionRuns s = true ↔ s.ectl.run = true ∧ s.eseq.seen = s.ectl.session := by
  simp [sessionRuns]

theorem echoOk_iff (s : State) :
    EchoOk s ↔ s.ectl.run = s.subs.echo ∧ SeqOk s.ectl.run s.ectl.session s.eseq := by
  rw [EchoOk, noControlPending_iff, sessionRuns_iff]
  constructor
  · rintro ⟨hsub, hrecv, hxmit, hcall, hsettled, hcounts, hroom⟩
    refine ⟨hsub, hrecv, hxmit, hcall, fun hrun hseen hidle => ?_, hcounts, fun h1 h2 h3 h4 => hroom h1 h2 ⟨h3, h4⟩⟩
    have hstopped := ((hsettled ⟨fun _ => hseen, fun _ => hidle⟩).1).mp hidle
    exact absurd (hstopped.symm.trans hrun) nofun
  · rintro ⟨hsub, hrecv, hxmit, hcall, hactive, hcounts, hroom⟩
    refine ⟨hsub, hrecv, hxmit, hcall, fun ⟨hrun, hstop⟩ => ⟨⟨fun hidle => ?_, hstop⟩, fun hbusy => ?_⟩, hcounts,
      fun h1 h2 h3 => hroom h1 h2 h3.1 h3.2⟩
    · exact eq_false_of_ne_true fun h => hactive h (hrun h) hidle
    · exact hrun (eq_true_of_ne_false fun h => hbusy (hstop h))

/-- Nothing but the echo's control and the sequencer's registers matter. -/
theorem echoOk_congr {s t : State} (hctl : t.ectl.run = s.ectl.run ∧ t.ectl.session = s.ectl.session)
    (hsub : t.subs.echo = s.subs.echo) (hseq : t.eseq = s.eseq) (h : EchoOk s) : EchoOk t := by
  rw [echoOk_iff] at h ⊢
  rwa [hctl.1, hctl.2, hsub, hseq]

/-! ##### The engine: ECHO_START and ECHO_STOP -/

/-- A new session that the sequencer has not seen is a pending control change (R191). -/
theorem SeqOk.started {run : Bool} {session session' : Word} {e : EchoSeq} (hfresh : session' ≠ e.seen)
    (h : SeqOk run session e) : SeqOk true session' e :=
  { h with
    active := fun _ hseen => absurd hseen.symm hfresh
    room := fun _ _ _ hseen => absurd hseen.symm hfresh }

theorem SeqOk.stopped {run : Bool} {session : Word} {e : EchoSeq} (h : SeqOk run session e) : SeqOk false session e :=
  { h with active := nofun, room := fun _ _ => nofun }

theorem echoOk_replyUpd {i : Instr} {k : Nat} {s u : State} (hu : ReplyUpd i k s u) (h : EchoOk s) : EchoOk u := by
  cases hu with
  | starts lp ld delay plen hi hfresh =>
    rw [echoOk_iff] at h ⊢
    exact ⟨rfl, h.2.started hfresh⟩
  | stops =>
    unfold echoStopped
    split
    · rw [echoOk_iff] at h ⊢
      exact ⟨rfl, h.2.stopped⟩
    · exact h
  | disconnects => exact echoOk_congr (by simp [disconnected]) (by simp [disconnected]) (by simp [disconnected]) h
  | sends => exact echoOk_congr (by simp) (by simp) (by simp) h
  | subscribes => exact echoOk_congr ⟨rfl, rfl⟩ (by simp [setSub]) rfl h
  | _ => exact h

theorem echoOk_respond {op : Byte} {st : Status} {v : Half} {s : State} (h : EchoOk s) :
    EchoOk (respond op st v s) :=
  echoOk_congr (by simp) (by simp) (by simp) h

theorem echoOk_msgStep {m : Msg} {k : Nat} {s t : State} (ht : MsgStep m k s t) (h : EchoOk s) : EchoOk t := by
  obtain ⟨i, -, ht⟩ | _ | ⟨-, ht⟩ | ⟨-, ht⟩ := ht
  · cases ht with
    | replies op st v u hroom hu => exact echoOk_respond (echoOk_replyUpd hu h)
    | _ => exact h
  · exact echoOk_respond h
  · cases ht with
    | emits => exact echoOk_congr (by simp) (by simp) (by simp) h
    | _ => exact h
  · cases ht <;> exact h

theorem echoOk_ioErrorEffect {op : Option Byte} {s : State} (h : EchoOk s) : EchoOk (ioErrorEffect op s) := by
  rw [ioErrorEffect_eq]
  rcases ioErrorBody_cases op s with ⟨-, hb⟩ | ⟨o, -, ⟨-, hb⟩ | ⟨-, hb⟩⟩ <;> rw [hb] <;>
    exact echoOk_congr (by simp [dropLink]) (by simp [dropLink]) (by simp [dropLink]) h

/-! ##### The sequencer's own steps -/

section
variable {run : Bool} {session : Word} {e e' : EchoSeq}

/-- While no call is awaited and the state is not Echoing, little can be wrong. -/
theorem seqOk_of_rest (hawait : e.await = .none) (hstate : e.state ≠ .echoing)
    (hactive : run = true → e.seen = session → e.state ≠ .idle) (hcounts : e.txc ≤ e.rxc) : SeqOk run session e where
  recv h := by simp [hawait] at h
  xmit h := by simp [hawait] at h
  call h := absurd hawait h
  active := hactive
  counts := hcounts
  room h := absurd h hstate

/-- The timers, the buffer and the call's session outside a call are not looked at. -/
theorem SeqOk.congr (h : SeqOk run session e) (hawait : e'.await = e.await := by rfl)
    (hstate : e'.state = e.state := by rfl) (hseen : e'.seen = e.seen := by rfl)
    (hcall : e'.callSess = e.callSess := by rfl) (htxc : e'.txc = e.txc := by rfl)
    (hrxc : e'.rxc = e.rxc := by rfl) : SeqOk run session e' := by
  obtain ⟨h1, h2, h3, h4, h5, h6⟩ := h
  constructor <;> simpa only [hawait, hstate, hseen, hcall, htxc, hrxc]

end

/-- The reply ends the wait; it moves the state only in a session that runs (R201 to R203). -/
theorem seqOk_consumeReply {s : State} (h : SeqOk s.ectl.run s.ectl.session s.eseq) (hawait : s.eseq.await ≠ .none) :
    SeqOk s.ectl.run s.ectl.session (consumeReply s).eseq := by
  unfold consumeReply
  split
  · rename_i hruns
    rcases hw : s.eseq.await
    · exact absurd hw hawait
    · have hlisten := h.recv hw
      have hrest : SeqOk s.ectl.run s.ectl.session { s.eseq with await := .none } :=
        seqOk_of_rest rfl (by simp [hlisten]) (fun _ _ => by simp [hlisten]) h.counts
      simp only [onRecvReply]
      split
      · exact hrest
      · exact hrest.congr
    · simp only [onXmitReply]
      split
      · exact seqOk_of_rest rfl (by simp) (fun _ _ => by simp) h.counts
      · exact seqOk_of_rest rfl (by simp) (fun _ _ => by simp) h.counts
  · rename_i hstale
    have hcall := h.call hawait
    refine ⟨nofun, nofun, fun hno => absurd rfl hno, h.active, h.counts, fun _ _ hrun hseen => ?_⟩
    have hseen : s.eseq.seen = s.ectl.session := hseen
    exact absurd (by simp [hrun, hcall, hseen]) hstale

theorem seqOk_applyStart {s : State} (h : SeqOk s.ectl.run s.ectl.session s.eseq) (hawait : s.eseq.await = .none) :
    SeqOk s.ectl.run s.ectl.session (applyStart s).eseq :=
  seqOk_of_rest hawait (nofun : ¬ EchoState.listening = .echoing) (fun _ _ => (nofun : ¬ EchoState.listening = .idle))
    h.counts

theorem seqOk_applyStop {s : State} (h : SeqOk s.ectl.run s.ectl.session s.eseq) (hawait : s.eseq.await = .none)
    (hrun : s.ectl.run = false) : SeqOk s.ectl.run s.ectl.session (applyStop s).eseq :=
  seqOk_of_rest hawait (nofun : ¬ EchoState.idle = .echoing) (fun hr => absurd (hrun.symm.trans hr) nofun) h.counts

theorem seqOk_armExpiry {s : State} (h : SeqOk s.ectl.run s.ectl.session s.eseq) :
    SeqOk s.ectl.run s.ectl.session (armExpiry s).eseq := by
  rcases armExpiry_cases s with ⟨hlisten, he⟩ | he <;> rw [he]
  · exact ⟨fun _ => hlisten, nofun, fun _ => rfl, h.active, h.counts, fun _ => nofun⟩
  · exact h.congr

/-- With no control change pending, an echo is due in the running session only, where the counts have room for it. -/
theorem seqOk_echoExpiry {s : State} (h : SeqOk s.ectl.run s.ectl.session s.eseq) (hawait : s.eseq.await = .none)
    (hsettled : noControlPending s = true) : SeqOk s.ectl.run s.ectl.session (echoExpiry s).eseq := by
  rcases echoExpiry_cases s with ⟨hdue, he⟩ | he <;> rw [he]
  · rw [noControlPending_iff] at hsettled
    have hrun : s.ectl.run = true := eq_true_of_ne_false fun hstop => by simp [hsettled.2 hstop] at hdue
    have hroom := h.room hdue hawait hrun (hsettled.1 hrun)
    exact ⟨nofun, fun _ => hdue, fun _ => rfl, h.active, satInc_le hroom, fun _ => nofun⟩
  · exact h.congr

theorem seqOk_handleEqHead {s : State} (h : SeqOk s.ectl.run s.ectl.session s.eseq) (hawait : s.eseq.await = .none) :
    SeqOk s.ectl.run s.ectl.session (handleEqHead s).eseq := by
  rcases handleEqHead_cases s with he | ⟨x, rest, -, he | ⟨-, -, -, he⟩ | ⟨-, -, -, he⟩⟩ <;> rw [he]
  · exact h
  · exact h
  · unfold onRxFrame
    split
    · refine ⟨fun hw => absurd (hawait.symm.trans hw) nofun, fun hw => absurd (hawait.symm.trans hw) nofun,
        fun hw => absurd hawait hw, fun _ _ => nofun, BitVec.le_trans h.counts (le_satInc _), fun _ _ _ _ => ?_⟩
      exact (lt_satInc_or s.eseq.rxc).imp_left (Nat.lt_of_le_of_lt h.counts)
    · exact h
  · unfold onTxEvent
    split
    · exact seqOk_of_rest hawait (nofun : ¬ EchoState.listening = .echoing)
        (fun _ _ => (nofun : ¬ EchoState.listening = .idle)) h.counts
    · exact h

theorem echoOk_echoStep (pick : Config.EchoPick) {s : State} (h : EchoOk s) : EchoOk (echoStep pick s) := by
  have hl := (leavesHostSide_echoStep pick s).toLeavesEngine
  rw [echoOk_iff] at h ⊢
  obtain ⟨hsub, h⟩ := h
  rw [hl.ectl, hl.subs]
  refine ⟨hsub, ?_⟩
  rcases echoStep_cases pick s with he | ⟨hawait, -, he⟩ | ⟨hawait, -, -, he⟩ | ⟨hawait, hrun, he⟩ |
    ⟨hawait, hsettled, he | he | he⟩ <;> rw [he]
  · exact h
  · exact seqOk_consumeReply h hawait
  · exact seqOk_applyStart h hawait
  · exact seqOk_applyStop h hawait hrun
  · exact seqOk_armExpiry h
  · exact seqOk_echoExpiry h hawait hsettled
  · exact seqOk_handleEqHead h hawait

theorem echoOk_timerTick {s : State} (h : EchoOk s) : EchoOk (timerTick s) := by
  rw [echoOk_iff] at h ⊢
  rw [timerTick_eq]
  exact ⟨h.1, h.2.congr⟩

theorem echoOk_routeEdge {s : State} (h : EchoOk s) : EchoOk (routeEdge s) := by
  rcases routeEdge_cases s with ⟨-, he⟩ | ⟨-, he⟩ | ⟨-, he⟩ <;> rw [he] <;> exact h

theorem echoOk_blockReset (s : State) : EchoOk (blockReset s) :=
  (echoOk_iff _).mpr
    ⟨rfl, seqOk_of_rest rfl (nofun : ¬ EchoState.idle = .echoing) (nofun : false = true → _) (BitVec.le_refl (0 : Word))⟩

theorem echoOk_stepKeeps : StepKeeps EchoOk where
  toEngineKeeps := .of_msgStep (fun _ _ h => h)
    (fun m _ _ _ _ h => by cases m <;> exact h)
    (fun _ _ _ _ _ _ ht h => echoOk_msgStep ht h) (fun _ _ _ _ h => echoOk_ioErrorEffect h)
  tick _ h := echoOk_timerTick h
  echo p _ h := echoOk_echoStep p h
  edge s h := by
    rcases edgeTurn_cases s with he | he <;> rw [he]
    · exact echoOk_routeEdge h
    · exact h
  clk b s h := by
    rcases clkTurn_cases b s with he | he <;> rw [he]
    · exact echoOk_routeEdge (s := shiftDio b s) h
    · exact h
  hostWrite a d s h := by
    rcases hostWrite_cases a d s with ⟨-, -, he⟩ | ⟨_, he⟩ | ⟨_, -, he⟩ <;> rw [he] <;> exact h
  hostRead a s h := by
    obtain ⟨_, _, _, _, -, -, he⟩ := hostRead_cases a s
    rw [he]
    exact h
  reset s _ := echoOk_blockReset s

end Sys2Proof.Machine

namespace Sys2Proof.Proofs

open Sys2Proof.Machine Sys2Proof.Safety

/-- Settles O55: a call is counted where it is, in INQ, executing or in RPL; the sequencer's clauses are kept action
by action. -/
theorem stepKeepsTokensAndEcho : Obligations.StepKeepsTokensAndEcho := fun s t h =>
  ⟨fun hs => (tokensInv_iff t).mp (tokensInv_stepKeeps.step ((tokensInv_iff s).mpr hs) h),
   fun hs => echoOk_stepKeeps.step hs h⟩

end Sys2Proof.Proofs
end

/-! ### What a command may change -/

section

namespace Sys2Proof.Machine

open Sys2Proof.Safety

/-- The shadow's fields change by the setter named at each, and the last two not at all (R30). -/
structure RadioKept (i : Instr) (r r' : RadioCfg) : Prop where
  preamble : r'.preamble = r.preamble := by rfl
  crcOn : r'.crcOn = r.crcOn := by rfl
  freq : (∀ f, i ≠ .setFrequency f) → r'.freq = r.freq := by exact fun _ => rfl
  sf : (∀ v, i ≠ .setSf v) → r'.sf = r.sf ∧ r'.implicitHdr = r.implicitHdr := by exact fun _ => ⟨rfl, rfl⟩
  bw : (∀ v, i ≠ .setBw v) → r'.bw = r.bw := by exact fun _ => rfl
  cr : (∀ v, i ≠ .setCr v) → r'.cr = r.cr := by exact fun _ => rfl
  txPwr : (∀ v, i ≠ .setTxPower v) → r'.txPwr = r.txPwr := by exact fun _ => rfl
  sync : (∀ v, i ≠ .setSyncWord v) → r'.sync = r.sync := by exact fun _ => rfl

theorem RadioKept.trans {i : Instr} {r r' r'' : RadioCfg} (h : RadioKept i r r') (h' : RadioKept i r' r'') :
    RadioKept i r r'' where
  preamble := h'.preamble.trans h.preamble
  crcOn := h'.crcOn.trans h.crcOn
  freq hi := (h'.freq hi).trans (h.freq hi)
  sf hi := ⟨(h'.sf hi).1.trans (h.sf hi).1, (h'.sf hi).2.trans (h.sf hi).2⟩
  bw hi := (h'.bw hi).trans (h.bw hi)
  cr hi := (h'.cr hi).trans (h.cr hi)
  txPwr hi := (h'.txPwr hi).trans (h.txPwr hi)
  sync hi := (h'.sync hi).trans (h.sync hi)

theorem radioKept_of_eq {i : Instr} {r r' : RadioCfg} (h : r' = r) : RadioKept i r r' := by
  rw [h]
  exact {}

/-- A setter changes its own fields of the shadow. -/
theorem radioKept_shadowOf {i : Instr} {f : RadioCfg → RadioCfg} (hi : shadowOf i = some f) (r : RadioCfg) :
    RadioKept i r (f r) := by
  cases i <;> cases hi
  case setFrequency f => exact { freq := fun h => absurd rfl (h f) }
  case setSf v => exact { sf := fun h => absurd rfl (h v) }
  case setBw v => exact { bw := fun h => absurd rfl (h v) }
  case setCr v => exact { cr := fun h => absurd rfl (h v) }
  case setTxPower v => exact { txPwr := fun h => absurd rfl (h v) }
  case setSyncWord v => exact { sync := fun h => absurd rfl (h v) }

/-- What command `i` may change from `s` to `t` (`Obligations.CommandsChangeOnlyTheirRegisters`). -/
structure Footprint (i : Instr) (s t : State) : Prop where
  radio : begins i = false → RadioKept i s.radio t.radio := by exact fun _ => radioKept_of_eq rfl
  hostSubs : (∀ id', i ≠ .subscribe id' ∧ i ≠ .unsubscribe id') → t.subs.host = s.subs.host := by exact fun _ => rfl
  ectl : (∀ lp ld d p, i ≠ .echoStart lp ld d p) → t.ectl = { s.ectl with run := t.ectl.run } := by exact fun _ => rfl
  echo : (∀ lp ld d p, i ≠ .echoStart lp ld d p) → i ≠ .echoStop →
    t.ectl.run = s.ectl.run ∧ t.subs.echo = s.subs.echo := by exact fun _ _ => ⟨rfl, rfl⟩
  waitCnt : begins i = false → i ≠ .hardwareReset → t.eng.waitCnt = s.eng.waitCnt := by exact fun _ _ => rfl
  dio : begins i = false → t.dio = s.dio := by exact fun _ => rfl
  tx : (∀ n, i ≠ .transmit n) → t.tx = { s.tx with pending := t.tx.pending } := by exact fun _ => rfl
  pending : (∀ n, i ≠ .transmit n) → t.tx.pending = true → s.tx.pending = true := by exact fun _ => id
  events : (∀ n, i ≠ .transmit n) → s.tx.pending = false → t.evtq = s.evtq ∧ t.eq = s.eq ∧ t.host = s.host := by
    exact fun _ _ => ⟨rfl, rfl, rfl⟩
  connected : begins i = false → t.eng.connected = true → s.eng.connected = true := by exact fun _ => id

theorem Footprint.trans {i : Instr} {s t u : State} (h : Footprint i s t) (h' : Footprint i t u) :
    Footprint i s u where
  radio hi := (h.radio hi).trans (h'.radio hi)
  hostSubs hi := (h'.hostSubs hi).trans (h.hostSubs hi)
  ectl hi := by rw [h'.ectl hi, h.ectl hi]
  echo hi hi' := ⟨(h'.echo hi hi').1.trans (h.echo hi hi').1, (h'.echo hi hi').2.trans (h.echo hi hi').2⟩
  waitCnt hi hi' := (h'.waitCnt hi hi').trans (h.waitCnt hi hi')
  dio hi := (h'.dio hi).trans (h.dio hi)
  tx hi := by rw [h'.tx hi, h.tx hi]
  pending hi hp := h.pending hi (h'.pending hi hp)
  events hi hp := by
    have hp' : t.tx.pending = false := eq_false_of_ne_true fun ht => absurd (hp.symm.trans (h.pending hi ht)) nofun
    obtain ⟨hevt, heq, hhost⟩ := h.events hi hp
    obtain ⟨hevt', heq', hhost'⟩ := h'.events hi hp'
    exact ⟨hevt'.trans hevt, heq'.trans heq, hhost'.trans hhost⟩
  connected hi hc := h.connected hi (h'.connected hi hc)

theorem footprint_respond (i : Instr) (op : Byte) (st : Status) (v : Half) (s : State) :
    Footprint i s (respond op st v s) := by
  rcases ho : s.eng.origin with _ | sess
  · rw [respond_toHost op st v s ho]
    exact {}
  · rw [respond_toCall op st v s sess ho]
    exact {}

/-- Events are posted by a TRANSMIT, or in a TX wait (R165, R226). -/
theorem Footprint.emit {i : Instr} {s t : State} (h : Footprint i s t)
    (hi : (∀ n, i ≠ .transmit n) → s.tx.pending = true) (e : Event) : Footprint i s (emit e t) where
  radio := by simpa using h.radio
  hostSubs := by simpa using h.hostSubs
  ectl := by simpa using h.ectl
  echo := by simpa using h.echo
  waitCnt := by simpa using h.waitCnt
  dio := by simpa using h.dio
  tx := by simpa using h.tx
  pending := by simpa using h.pending
  events hn hp := absurd ((hi hn).symm.trans hp) nofun
  connected := by simpa using h.connected

theorem footprint_closeIfOpen (i : Instr) (s : State) : Footprint i s (closeIfOpen s) := by
  unfold closeIfOpen
  split <;> exact {}

theorem footprint_replyUpd {i : Instr} {k : Nat} {s u : State} (hu : ReplyUpd i k s u) : Footprint i s u := by
  have hbegin {p : Prop} (hi : begins i = true) : begins i = false → p := fun h => absurd (hi.symm.trans h) nofun
  cases hu with
  | rejects hi => exact { radio := hbegin hi, waitCnt := hbegin hi, dio := hbegin hi, connected := hbegin hi }
  | connects f hi =>
    have hi : begins i = true := by rw [hi]; rfl
    exact { radio := hbegin hi, waitCnt := hbegin hi, dio := hbegin hi, connected := hbegin hi }
  | shadows f hi => exact { radio := fun _ => radioKept_shadowOf hi s.radio }
  | subscribes id' on hi =>
    refine { hostSubs := fun h => ?_ }
    rcases hi with hi | hi
    · exact absurd hi (h id').1
    · exact absurd hi (h id').2
  | disconnects => exact (footprint_closeIfOpen i s).trans { connected := fun _ => nofun }
  | sends n st kind hi => exact Footprint.emit {} (fun h => absurd hi (h n)) _
  | starts lp ld delay plen hi =>
    exact { ectl := fun h => absurd hi (h lp ld delay plen), echo := fun h => absurd hi (h lp ld delay plen) }
  | stops hi =>
    unfold echoStopped
    split
    · exact { echo := fun _ h => absurd hi h }
    · exact {}
  | _ => exact {}

/-- Every atomic action of a command keeps to what the command may change. -/
theorem footprint_cmdStep {c : Config.Params} {i : Instr} {m : Msg} {k : Nat} {s t : State}
    (h : CmdStep c i m k s t) : Footprint i s t := by
  have hbegin {f : Nat} {p : Prop} (hi : i = .begin f) : begins i = false → p := by
    rw [hi]
    exact nofun
  have htx {n : Nat} {p : Prop} (hi : i = .transmit n) : (∀ n, i ≠ .transmit n) → p := fun h => absurd hi (h n)
  cases h with
  | replies op st v u hroom hu =>
    exact ((footprint_replyUpd hu).trans (footprint_respond i op st v u)).trans {}
  | opens f hi => exact { dio := hbegin hi }
  | loadsWait ms hi =>
    refine { waitCnt := fun hb hr => ?_ }
    rcases hi with hi | hi
    · exact absurd (hi.symm.trans hb) nofun
    · exact absurd hi hr
  | entersTxWait n e hi => exact { tx := htx hi, pending := htx hi, events := htx hi }
  | polls n j e w hi => exact { tx := htx hi, pending := htx hi, events := htx hi }
  | pollFails n e hi => exact { tx := htx hi, pending := htx hi, events := htx hi }
  | leavesTxWait n e hi => exact { tx := htx hi, pending := htx hi, events := htx hi }
  | copies lp ld delay plen j x b w hi =>
    exact { ectl := fun h => absurd hi (h lp ld delay plen), echo := fun h => absurd hi (h lp ld delay plen) }
  | loadsEcho lp ld delay plen n d hi =>
    exact { ectl := fun h => absurd hi (h lp ld delay plen), echo := fun h => absurd hi (h lp ld delay plen) }
  | _ => exact {}

theorem footprint_dropLink (i : Instr) (s : State) : Footprint i s (dropLink s) :=
  (footprint_closeIfOpen i s).trans { pending := fun _ => nofun, connected := fun _ => nofun }

theorem footprint_ioErrorEffect (i : Instr) (op : Option Byte) (s : State) : Footprint i s (ioErrorEffect op s) := by
  rw [ioErrorEffect_eq]
  refine Footprint.trans (t := ioErrorBody op s) ?_ {}
  have hdrop := footprint_dropLink i s
  rcases ioErrorBody_cases op s with ⟨-, hb⟩ | ⟨o, -, ⟨-, hb⟩ | ⟨hp, hb⟩⟩ <;> rw [hb]
  · exact hdrop
  · exact hdrop.trans (footprint_respond i o .ioError 0 _)
  · exact (hdrop.trans (footprint_respond i o .ioError 0 _)).emit (fun _ => hp) _

/-- What holds of a command's run from `s` on: its footprint, and the shadow as it was until the command ends (R30). -/
def RunsFrom (i : Instr) (s t : State) : Prop :=
  Footprint i s t ∧ (t.eng.pc ≠ .idle → t.radio = s.radio)

theorem runsFrom_exec {i : Instr} {s t : State} (hbusy : s.eng.pc ≠ .idle) (h : exec i s = .next t) :
    RunsFrom i s t := by
  rw [exec_eq_runMessage] at h
  obtain ⟨m, hm⟩ : ∃ m, runningMsg s = some m := by
    rcases hpc : s.eng.pc with _ | ⟨m, k⟩ | m
    · exact absurd hpc hbusy
    · exact ⟨m, by simp only [runningMsg, hpc]⟩
    · exact ⟨m, by simp only [runningMsg, hpc]⟩
  refine runMessage_keeps (I := RunsFrom i s) (regularProg_instrProg s.cfg i) ?_ ?_ hm rfl ⟨{}, fun _ => rfl⟩ h
  · intro k a u v ha hc hpc ⟨hfoot, hradio⟩ hv
    have hstep : CmdStep u.cfg i m k u v := cmdStep_of_exit (hc.symm ▸ ha) hv
    refine ⟨hfoot.trans (footprint_cmdStep hstep), fun hrun => ?_⟩
    rcases hstep.radio with hr | ⟨hidle, -⟩ | ⟨hidle, -⟩
    · exact hr.trans (hradio (by simp [hpc]))
    · exact absurd hidle hrun
    · exact absurd hidle hrun
  · intro u _ _ ⟨hfoot, _⟩
    exact ⟨hfoot.trans (footprint_ioErrorEffect i _ u), fun hrun => absurd (by rw [ioErrorEffect_eq]; rfl) hrun⟩

end Sys2Proof.Machine

namespace Sys2Proof.Proofs

open Sys2Proof.Machine Sys2Proof.Safety

/-- Settles O50: every action of the command and the IoError step keep to the command's footprint. -/
theorem commandsChangeOnlyTheirRegisters : Obligations.CommandsChangeOnlyTheirRegisters := by
  intro i s t hbusy h
  obtain ⟨hfoot, hshadow⟩ := runsFrom_exec hbusy h
  have hbegins (hb : ¬ ∃ f, i = .begin f) : begins i = false := by
    cases i
    case begin f => exact absurd ⟨f, rfl⟩ hb
    all_goals rfl
  have hradio (hb : ¬ ∃ f, i = .begin f) : RadioKept i s.radio t.radio := hfoot.radio (hbegins hb)
  exact ⟨hshadow, fun hb => ⟨(hradio hb).preamble, (hradio hb).crcOn⟩, fun hb => (hradio hb).freq,
    fun hb => (hradio hb).sf, fun hb => (hradio hb).bw, fun hb => (hradio hb).cr, fun hb => (hradio hb).txPwr,
    fun hb => (hradio hb).sync, hfoot.hostSubs, fun hi => ⟨hfoot.ectl hi, hfoot.echo hi⟩,
    fun hb => hfoot.waitCnt (hbegins hb), fun hb => hfoot.dio (hbegins hb),
    fun hi => ⟨hfoot.tx hi, hfoot.pending hi, hfoot.events hi⟩, fun hb => hfoot.connected (hbegins hb)⟩

end Sys2Proof.Proofs
end

/-! ### The host's accesses -/

section

namespace Sys2Proof.Machine

/-- An access acts on the word its address lies in (R67). -/
theorem csrOffset_eq (a : BusAddr) : csrOffset a = a.toNat / 4 * 4 := by
  have hshift : a &&& 0x3FC#10 = (a >>> 2) <<< 2 := by
    apply BitVec.eq_of_getLsbD_eq
    intro i hi
    interval_cases i <;> simp
  have hlt := a.isLt
  have hoff : csrOffset a = (a &&& 0x3FC#10).toNat := rfl
  rw [hoff, hshift, BitVec.toNat_shiftLeft, BitVec.toNat_ushiftRight, Nat.shiftLeft_eq, Nat.shiftRight_eq_div_pow]
  omega

/-- What a byte of TXBUF's memory is after a word has been written (R64). -/
theorem memFind_txStoreWord (m : Memory) (a : Nat) (d : Word) (c : Nat) :
    memFind (txStoreWord m a d) c = if a ≤ c ∧ c < a + 4 then some (wordByte d (c - a)) else memFind m c := by
  unfold txStoreWord
  by_cases h3 : c = a + 3
  · rw [if_pos (by omega), h3, memFind_memStore_same, Nat.add_sub_cancel_left]
  rw [memFind_memStore_other _ _ _ _ h3]
  by_cases h2 : c = a + 2
  · rw [if_pos (by omega), h2, memFind_memStore_same, Nat.add_sub_cancel_left]
  rw [memFind_memStore_other _ _ _ _ h2]
  by_cases h1 : c = a + 1
  · rw [if_pos (by omega), h1, memFind_memStore_same, Nat.add_sub_cancel_left]
  rw [memFind_memStore_other _ _ _ _ h1]
  by_cases h0 : c = a
  · rw [if_pos (by omega), h0, memFind_memStore_same, Nat.sub_self]
  rw [memFind_memStore_other _ _ _ _ h0, if_neg (by omega)]

theorem hostWrite_window {a : BusAddr} (d : Word) (s : State) (h : 0x100 ≤ csrOffset a ∧ csrOffset a < 0x200) :
    hostWrite a d s = { s with txbuf := txStoreWord s.txbuf (csrOffset a) d } :=
  if_pos h

/-! #### The registers' fields -/

theorem getLsbD_append_low {v w i : Nat} (x : BitVec v) (y : BitVec w) (h : i < w) :
    (x ++ y).getLsbD i = y.getLsbD i := by
  rw [BitVec.getLsbD_append, if_pos h]

theorem getLsbD_append_high {v w i : Nat} (x : BitVec v) (y : BitVec w) (h : w ≤ i) :
    (x ++ y).getLsbD i = x.getLsbD (i - w) := by
  rw [BitVec.getLsbD_append, if_neg (by omega)]

theorem statusWord_fields (s : State) :
    (statusWord s).getLsbD 0 = s.eng.connected ∧ (statusWord s).getLsbD 1 = s.eng.handles ∧
    (statusWord s).extractLsb' 2 3 = modeCode s.eng.mode ∧ (statusWord s).getLsbD 5 = (s.eng.pc != .idle) ∧
    (statusWord s).getLsbD 6 = s.tx.pending ∧ (statusWord s).getLsbD 7 = rxArmed s ∧
    (statusWord s).getLsbD 8 = s.ectl.run ∧ (statusWord s).extractLsb' 9 2 = echoStateCode s.eseq.state ∧
    (statusWord s).getLsbD 11 = (s.eseq.await != .none) ∧ (statusWord s).getLsbD 12 = cmdFull s ∧
    (statusWord s).getLsbD 13 = !s.rspq.isEmpty ∧ (statusWord s).getLsbD 14 = !s.evtq.isEmpty ∧
    (statusWord s).getLsbD 15 = irqOut s ∧ (statusWord s).extractLsb' 16 16 = 0 := by
  refine ⟨?_, ?_, ?_, ?_, ?_, ?_, ?_, ?_, ?_, ?_, ?_, ?_, ?_, ?_⟩
  all_goals
    simp (disch := decide) only [statusWord, getLsbD_append_low, getLsbD_append_high, BitVec.extractLsb'_append_eq_of_le,
      BitVec.extractLsb'_append_eq_of_add_le]
    simp

theorem irqEnWord_fields (s : State) :
    (irqEnWord s).getLsbD 0 = s.host.rspIe ∧ (irqEnWord s).getLsbD 1 = s.host.evtIe ∧
    (irqEnWord s).extractLsb' 2 30 = 0 := by
  refine ⟨?_, ?_, ?_⟩
  all_goals
    simp (disch := decide) only [irqEnWord, getLsbD_append_low, getLsbD_append_high, BitVec.extractLsb'_append_eq_of_le]
    simp

theorem stickyWord_fields (s : State) :
    (stickyWord s).getLsbD 0 = s.host.cmdOvf ∧ (stickyWord s).getLsbD 1 = s.host.evtOvf ∧
    (stickyWord s).getLsbD 2 = s.host.echoEvtOvf ∧ (stickyWord s).extractLsb' 3 29 = 0 := by
  refine ⟨?_, ?_, ?_, ?_⟩
  all_goals
    simp (disch := decide) only [stickyWord, getLsbD_append_low, getLsbD_append_high, BitVec.extractLsb'_append_eq_of_le]
    simp

theorem cfgRadioWord_fields (r : RadioCfg) :
    (cfgRadioWord r).extractLsb' 0 4 = r.sf ∧ (cfgRadioWord r).extractLsb' 4 4 = r.bw ∧
    (cfgRadioWord r).extractLsb' 8 4 = r.cr ∧ (cfgRadioWord r).extractLsb' 12 4 = 0 ∧
    (cfgRadioWord r).extractLsb' 16 5 = r.txPwr ∧ (cfgRadioWord r).extractLsb' 21 3 = 0 ∧
    (cfgRadioWord r).extractLsb' 24 8 = r.sync := by
  refine ⟨?_, ?_, ?_, ?_, ?_, ?_, ?_⟩
  all_goals
    simp (disch := decide) only [cfgRadioWord, BitVec.extractLsb'_append_eq_of_le,
      BitVec.extractLsb'_append_eq_of_add_le]
    simp

theorem cfgPktWord_fields (r : RadioCfg) :
    (cfgPktWord r).extractLsb' 0 16 = r.preamble ∧ (cfgPktWord r).getLsbD 16 = r.crcOn ∧
    (cfgPktWord r).getLsbD 17 = r.implicitHdr ∧ (cfgPktWord r).extractLsb' 18 14 = 0 := by
  refine ⟨?_, ?_, ?_, ?_⟩
  all_goals
    simp (disch := decide) only [cfgPktWord, getLsbD_append_low, getLsbD_append_high, BitVec.extractLsb'_append_eq_of_le,
      BitVec.extractLsb'_append_eq_of_add_le]
    simp

theorem echoCfgWord_fields (e : EchoCtl) :
    (echoCfgWord e).extractLsb' 0 16 = e.delay ∧ (echoCfgWord e).extractLsb' 16 8 = e.plen ∧
    (echoCfgWord e).extractLsb' 24 8 = 0 := by
  refine ⟨?_, ?_, ?_⟩
  all_goals
    simp (disch := decide) only [echoCfgWord, BitVec.extractLsb'_append_eq_of_le,
      BitVec.extractLsb'_append_eq_of_add_le]
    simp

theorem subsWord_fields (s : State) :
    (subsWord s).extractLsb' 0 8 = s.subs.host ∧ (subsWord s).getLsbD 8 = s.subs.echo ∧
    (subsWord s).extractLsb' 9 23 = 0 := by
  refine ⟨?_, ?_, ?_⟩
  all_goals
    simp (disch := decide) only [subsWord, getLsbD_append_low, getLsbD_append_high, BitVec.extractLsb'_append_eq_of_le,
      BitVec.extractLsb'_append_eq_of_add_le]
    simp

/-- The four bytes of a packed word, the first lowest (R64). -/
theorem packWord_bytes (b0 b1 b2 b3 : Byte) :
    (packWord b0 b1 b2 b3).extractLsb' 0 8 = b0 ∧ (packWord b0 b1 b2 b3).extractLsb' 8 8 = b1 ∧
    (packWord b0 b1 b2 b3).extractLsb' 16 8 = b2 ∧ (packWord b0 b1 b2 b3).extractLsb' 24 8 = b3 := by
  refine ⟨?_, ?_, ?_, ?_⟩
  all_goals
    simp (disch := decide) only [packWord, BitVec.extractLsb'_append_eq_of_le,
      BitVec.extractLsb'_append_eq_of_add_le]
    simp

/-- EVT_META: the RSSI and the SNR of a latched frame, 0 for anything else (R87). -/
theorem eventMetaWord_fields (c : EvtCur) :
    (c.record.event.kind = .rxFrame → (eventMetaWord (some c)).extractLsb' 16 16 = c.record.event.rssi ∧
      (eventMetaWord (some c)).extractLsb' 8 8 = 0 ∧
      (eventMetaWord (some c)).extractLsb' 0 8 = c.record.event.snr) ∧
    (c.record.event.kind ≠ .rxFrame → eventMetaWord (some c) = 0) := by
  rcases hk : c.record.event.kind
  · simp only [eventMetaWord, hk]
    refine ⟨fun _ => ⟨?_, ?_, ?_⟩, fun h => absurd rfl h⟩
    all_goals
      simp (disch := decide) only [BitVec.extractLsb'_append_eq_of_le, BitVec.extractLsb'_append_eq_of_add_le]
      simp
  · simp only [eventMetaWord, hk]
    exact ⟨nofun, fun _ => trivial⟩
  · simp only [eventMetaWord, hk]
    exact ⟨nofun, fun _ => trivial⟩

/-- Byte `j` of ECHO_PREFIX[k] (R41). -/
theorem echoPrefixWord_byte (pfx : List Byte) (k : Nat) {j : Nat} (hj : j < 4) :
    (echoPrefixWord pfx k).extractLsb' (8 * j) 8 = pfx.getD (4 * k + j) 0 := by
  obtain ⟨h0, h1, h2, h3⟩ := packWord_bytes (pfx.getD (4 * k) 0) (pfx.getD (4 * k + 1) 0) (pfx.getD (4 * k + 2) 0)
    (pfx.getD (4 * k + 3) 0)
  interval_cases j
  · exact h0
  · exact h1
  · exact h2
  · exact h3

theorem csrValue_echoPrefix (s : State) {k : Nat} (hk : k < 8) :
    csrValue s (0x080 + 4 * k) = echoPrefixWord s.ectl.pfx k := by
  interval_cases k <;> rfl

/-- Write-only and unlisted offsets read 0 (R24). -/
theorem csrValue_unlisted {off : Nat} (s : State)
    (h : off = 0x010 ∨ off = 0x014 ∨ (0x048 ≤ off ∧ off < 0x080) ∨ 0x0A0 ≤ off) : csrValue s off = 0 := by
  unfold csrValue
  split
  case h_25 => rfl
  all_goals omega

/-- Read-only and unlisted offsets ignore writes (R24, R67). -/
theorem hostWrite_ignored {a : BusAddr} (d : Word) (s : State)
    (hlisted : csrOffset a ∉ [0x008, 0x00C, 0x010, 0x014]) (hwindow : ¬ (0x100 ≤ csrOffset a ∧ csrOffset a < 0x200)) :
    hostWrite a d s = s := by
  simp only [hostWrite, if_neg hwindow]
  split
  case h_5 => rfl
  all_goals
    rename_i hoff
    simp [hoff] at hlisted

theorem irqOut_iff (s : State) :
    irqOut s = true ↔ (s.host.rspIe = true ∧ s.rspq ≠ []) ∨ (s.host.evtIe = true ∧ s.evtq ≠ []) := by
  simp [irqOut]

end Sys2Proof.Machine

namespace Sys2Proof.Proofs

open Sys2Proof.Machine Sys2Proof.Safety

/-- Settles O39: the write stores four bytes of the memory that a byte of TXBUF is read from. -/
theorem txbufWriteSetsFourBytes : Obligations.TxbufWriteSetsFourBytes := by
  intro a d s hlo hhi t
  have hoff := csrOffset_eq a
  have ht : t = { s with txbuf := txStoreWord s.txbuf (csrOffset a) d } := hostWrite_window d s (by omega)
  rw [ht]
  refine ⟨rfl, fun i hi => ?_⟩
  simp only [txByte, memFind_txStoreWord, txAddr]
  by_cases hword : i / 4 = (a.toNat - 0x100) / 4
  · have hbyte : 0x100 + i - csrOffset a = i % 4 := by omega
    rw [if_pos (by omega), if_pos hword, hbyte]
    rfl
  · rw [if_neg (by omega), if_neg hword]

/-- Settles O41, register by register. -/
theorem registersReadAndWrite : Obligations.RegistersReadAndWrite := by
  intro s read status radio pkt
  have hread (a : BusAddr) : read a = csrValue s (csrOffset a) := rfl
  refine ⟨?_, irqOut_iff s, rfl, irqEnWord_fields s, stickyWord_fields s, ?_, ?_, rfl, cfgRadioWord_fields s.radio,
    cfgPktWord_fields s.radio, echoCfgWord_fields s.ectl, rfl, rfl, subsWord_fields s, packWord_bytes _ _ _ _, ?_, ?_,
    fun d => ⟨rfl, rfl⟩⟩
  · obtain ⟨h0, h1, h2, h5, h6, h7, h8, h9, h11, h12, h13, h14, h15, h16⟩ := statusWord_fields s
    have hstatus : status = statusWord s := rfl
    rw [hstatus]
    refine ⟨h0, h1, h2, ?_, h6, ?_, h8, h9, ?_, ?_, ?_, ?_, h15, h16⟩
    · rw [h5, bne_iff_ne]
    · simp only [h7, rxArmed, Bool.or_eq_true, beq_iff_eq]
    · rw [h11, bne_iff_ne]
    · rw [h12, cmdFull, beq_iff_eq]
    · simp only [h13, Bool.not_eq_true', List.isEmpty_eq_false_iff, ne_eq]
    · simp only [h14, Bool.not_eq_true', List.isEmpty_eq_false_iff, ne_eq]
  · intro hcur
    have hmeta : read 0x020 = eventMetaWord s.evtCur := rfl
    rw [hmeta, hcur]
    rfl
  · intro c hcur
    have hmeta : read 0x020 = eventMetaWord s.evtCur := rfl
    rw [hmeta, hcur]
    exact eventMetaWord_fields c
  · intro i hi
    have hoff : csrOffset (BitVec.ofNat 10 (0x080 + 4 * (i / 4))) = 0x080 + 4 * (i / 4) := by
      rw [csrOffset_eq, BitVec.toNat_ofNat]
      omega
    rw [hread, hoff, csrValue_echoPrefix s (by omega), echoPrefixWord_byte _ _ (by omega), Nat.div_add_mod]
  · intro a off
    have hoff : csrOffset a = off := csrOffset_eq a
    refine ⟨fun h => ?_, fun hlisted hwindow d => ?_⟩
    · rw [hread, hoff]
      exact csrValue_unlisted s h
    · rw [← hoff] at hlisted hwindow
      exact hostWrite_ignored d s hlisted hwindow

end Sys2Proof.Proofs
end

/-! ### The working registers carry nothing from one message to the next -/

section

namespace Sys2Proof.Machine

open Sys2Proof.Safety

/-! #### Updates that leave the working registers out -/

/-- An update that neither reads nor writes the working registers. -/
def QuietUpd (f : State → State) : Prop := ∀ w s, f (setWork w s) = setWork w (f s)

@[simp] theorem setWork_work (w : Work) (s : State) : (setWork w s).work = w := rfl
@[simp] theorem setWork_cfg (w : Work) (s : State) : (setWork w s).cfg = s.cfg := rfl
@[simp] theorem setWork_eng (w : Work) (s : State) : (setWork w s).eng = s.eng := rfl
@[simp] theorem setWork_ectl (w : Work) (s : State) : (setWork w s).ectl = s.ectl := rfl

theorem QuietUpd.work {f : State → State} (hf : QuietUpd f) (s : State) : (f s).work = s.work := by
  have h : f s = setWork s.work (f s) := hf s.work s
  rw [h]
  rfl

theorem QuietUpd.comp {f g : State → State} (hf : QuietUpd f) (hg : QuietUpd g) : QuietUpd fun s => f (g s) :=
  fun w s => by simp only [hg w s, hf w (g s)]

@[simp] theorem quietUpd_id : QuietUpd id := fun _ _ => rfl
@[simp] theorem quietUpd_loadWait (ms : Nat) : QuietUpd (loadWait ms) := fun _ _ => rfl
@[simp] theorem quietUpd_openHandles : QuietUpd openHandles := fun _ _ => rfl
@[simp] theorem quietUpd_setMode (md : Mode) : QuietUpd (setMode md) := fun _ _ => rfl
@[simp] theorem quietUpd_loadRxSingle (t : Nat) : QuietUpd (loadRxSingle t) := fun _ _ => rfl
@[simp] theorem quietUpd_enterTxWait : QuietUpd enterTxWait := fun _ _ => rfl
@[simp] theorem quietUpd_leaveTxWait : QuietUpd leaveTxWait := fun _ _ => rfl
@[simp] theorem quietUpd_beginDone (f : Nat) : QuietUpd (beginDone f) := fun _ _ => rfl
@[simp] theorem quietUpd_shadow (f : RadioCfg → RadioCfg) : QuietUpd fun s => { s with radio := f s.radio } :=
  fun _ _ => rfl
@[simp] theorem quietUpd_resetDone : QuietUpd resetDone := fun _ _ => rfl
@[simp] theorem quietUpd_setSub (id' : Nat) (on : Bool) : QuietUpd (setSub id' on) := fun _ _ => rfl
@[simp] theorem quietUpd_echoStarted : QuietUpd echoStarted := fun _ _ => rfl

@[simp] theorem quietUpd_drive (p : Pin) (b : Bool) : QuietUpd (drive p b) := fun _ _ => by cases p <;> rfl

@[simp] theorem quietUpd_loadPlen (lp : Bool) (plen : Nat) : QuietUpd (loadPlen lp plen) := fun _ _ => by
  cases lp <;> rfl

@[simp] theorem quietUpd_loadDelay (ld : Bool) (delay : Nat) : QuietUpd (loadDelay ld delay) := fun _ _ => by
  cases ld <;> rfl

@[simp] theorem quietUpd_closeIfOpen : QuietUpd closeIfOpen := fun w s => by
  simp only [closeIfOpen, apply_ite (setWork w)]
  rfl

@[simp] theorem quietUpd_disconnected : QuietUpd disconnected :=
  have hlast : QuietUpd fun s =>
      { cancelRxSingle s with eng := { s.eng with connected := false, mode := .unknown } } := fun _ _ => rfl
  hlast.comp quietUpd_closeIfOpen

@[simp] theorem quietUpd_echoStopped : QuietUpd echoStopped := fun w s => by
  simp only [echoStopped, apply_ite (setWork w)]
  rfl

@[simp] theorem quietUpd_respond (op : Byte) (st : Status) (v : Half) : QuietUpd (respond op st v) := fun w s => by
  have horigin : (setWork w s).eng.origin = s.eng.origin := rfl
  rcases ho : s.eng.origin with _ | sess
  · rw [respond_toHost op st v s ho, respond_toHost op st v _ (horigin.trans ho)]
    rfl
  · rw [respond_toCall op st v s sess ho, respond_toCall op st v _ sess (horigin.trans ho)]
    rfl

theorem quietUpd_postEvt (e : Event) : QuietUpd (postEvt e) := fun w s => by
  simp only [postEvt, apply_ite (setWork w)]
  rfl

theorem quietUpd_postEq (e : Event) : QuietUpd (postEq e) := fun w s => by
  rcases hk : e.kind <;> simp only [postEq, hk, apply_ite (setWork w)] <;> rfl

@[simp] theorem quietUpd_emit (e : Event) : QuietUpd (emit e) := fun w s => by
  simp only [emit_spec, apply_ite (setWork w), quietUpd_postEvt e w, quietUpd_postEq e w]
  rfl

theorem quietUpd_dropLink : QuietUpd dropLink :=
  have hlast : QuietUpd fun s =>
      { cancelRxSingle s with
        eng := { s.eng with connected := false, mode := .unknown }
        tx := { s.tx with pending := false } } := fun _ _ => rfl
  hlast.comp quietUpd_closeIfOpen

theorem quietUpd_ioErrorStep (op : Option Byte) (m : Msg) : QuietUpd (ioErrorStep op m) := fun w s => by
  have hbody : ioErrorBody op (setWork w s) = setWork w (ioErrorBody op s) := by
    rcases op with _ | o
    · exact quietUpd_dropLink w s
    · simp only [ioErrorBody, quietUpd_dropLink w s, quietUpd_respond o _ _ w, quietUpd_emit _ w,
        apply_ite (setWork w)]
      rfl
  have hready : ioErrorReady op (setWork w s) = ioErrorReady op s := rfl
  simp only [ioErrorStep, hready, ioErrorEffect_eq, hbody, apply_ite (setWork w)]
  rfl

end Sys2Proof.Machine
end

section

namespace Sys2Proof.Machine

open Sys2Proof.Safety

/-! #### Runs from states that differ in working registers

`E k w w'` says what two contents of the working registers must agree on for the steps from `k` on. -/

/-- Two flows that lead to states which differ in the working registers alone, and agree there on what the next step
needs. -/
inductive Pair (E : Nat → Work → Work → Prop) (k : Nat) : Flow → Flow → Prop
  | step (s : State) (w : Work) (h : E (k + 1) s.work w) : Pair E k (.step s) (.step (setWork w s))
  | goto (j : Nat) (s : State) (w : Work) (h : E j s.work w) : Pair E k (.goto j s) (.goto j (setWork w s))
  | hold : Pair E k .hold .hold
  | done (s : State) (w : Work) : Pair E k (.done s) (.done (setWork w s))
  | ioErr (s : State) (w : Work) : Pair E k (.ioErr s) (.ioErr (setWork w s))
  | fault (r : Fault) : Pair E k (.fault r) (.fault r)

/-- As step `k`, the action needs no more of the working registers than `E k`, and hands on what `E` asks for next. -/
def Carries (E : Nat → Work → Work → Prop) (k : Nat) (a : Act) : Prop :=
  ∀ s w, E k s.work w → Pair E k (a s) (a (setWork w s))

theorem sameButWork_setWork (w : Work) (s : State) : SameButWork s (setWork w s) := rfl

/-- A program whose every action carries `E` runs to the same outcome but for the working registers. -/
theorem runActs_sameButWork {op : Option Byte} {prog : List Act} {m : Msg} {E : Nat → Work → Work → Prop}
    (hprog : Numbered (Carries E) 1 prog) (n k : Nat) (s : State) (w : Work) (h : E k s.work w) :
    sameButWorkOutcome (runActs op prog m n k s) (runActs op prog m n k (setWork w s)) := by
  induction n generalizing k s w with
  | zero => exact sameButWork_setWork w _
  | succ n ih =>
    rcases hk : stepAt prog k with _ | a
    · simp only [runActs, hk, sameButWorkOutcome]
    · have hpair := hprog.stepAt hk s w h
      generalize hs : a s = f at hpair
      generalize ht : a (setWork w s) = f' at hpair
      cases hpair with
      | step u w' hu =>
        rw [runActs_step hk hs, runActs_step hk ht]
        exact ih (k + 1) u w' hu
      | goto j u w' hu =>
        rw [runActs_goto hk hs, runActs_goto hk ht]
        exact ih j u w' hu
      | hold =>
        rw [runActs_hold hk hs, runActs_hold hk ht]
        exact sameButWork_setWork w _
      | done u w' =>
        rw [runActs_done hk hs, runActs_done hk ht]
        exact sameButWork_setWork w' _
      | ioErr u w' =>
        rw [runActs_ioErr hk hs, runActs_ioErr hk ht, quietUpd_ioErrorStep op m w' u]
        exact sameButWork_setWork w' _
      | fault r => simp only [runActs, hk, hs, ht, sameButWorkOutcome]

/-! ##### What single actions carry -/

section
variable {E : Nat → Work → Work → Prop} {k : Nat}

theorem carries_step {f : State → State}
    (hf : ∀ s w, E k s.work w → ∃ w', f (setWork w s) = setWork w' (f s) ∧ E (k + 1) (f s).work w') :
    Carries E k fun s => .step (f s) := by
  intro s w h
  obtain ⟨w', he, h'⟩ := hf s w h
  simp only [he]
  exact .step _ w' h'

theorem carries_goto {j : Nat} {f : State → State}
    (hf : ∀ s w, E k s.work w → ∃ w', f (setWork w s) = setWork w' (f s) ∧ E j (f s).work w') :
    Carries E k fun s => .goto j (f s) := by
  intro s w h
  obtain ⟨w', he, h'⟩ := hf s w h
  simp only [he]
  exact .goto j _ w' h'

theorem carries_done {f : State → State} (hf : QuietUpd f) : Carries E k fun s => .done (f s) := by
  intro s w _
  simp only [hf w s]
  exact .done _ w

theorem carries_hold : Carries E k fun _ => .hold := fun _ _ _ => .hold

/-- A choice that `E` makes the same on both sides. -/
theorem carries_ite {c : State → Prop} {inst : DecidablePred c} {a b : Act}
    (hc : ∀ s w, E k s.work w → (c (setWork w s) ↔ c s)) (ha : Carries E k a) (hb : Carries E k b) :
    Carries E k fun s => if c s then a s else b s := by
  intro s w h
  simp only [hc s w h]
  split
  · exact ha s w h
  · exact hb s w h

/-- A transfer and what follows it where it does not fail. -/
theorem carries_transfer {a f : Act} {e : State → BusEvent}
    (ha : ∀ s, a s = if spiErrNow s then .ioErr (afterBus s [e s]) else f s)
    (he : ∀ s w, E k s.work w → e (setWork w s) = e s) (hf : Carries E k f) : Carries E k a := by
  intro s w h
  have hspi : spiErrNow (setWork w s) = spiErrNow s := rfl
  rw [ha, ha, hspi, he s w h]
  split
  · exact .ioErr _ w
  · exact hf s w h

theorem carries_reply {op : Byte} {st : Status} {v : State → Half} {upd : State → State}
    (hv : ∀ s w, E k s.work w → v (setWork w s) = v s) (hu : QuietUpd upd) :
    Carries E k fun s => replyWith op st (v s) upd s := by
  intro s w h
  have hroom : canReply (setWork w s) = canReply s := rfl
  simp only [replyWith_spec, hv s w h, hroom, hu w s, quietUpd_respond op st _ w]
  split
  · exact .done _ w
  · exact .hold

theorem carries_replyWith {op : Byte} {st : Status} {v : Half} {upd : State → State} (hu : QuietUpd upd) :
    Carries E k (replyWith op st v upd) :=
  carries_reply (v := fun _ => v) (fun _ _ _ => rfl) hu

/-- A register write of a value that `E` makes the same on both sides. -/
theorem carries_writeAct {reg : Config.RegMap → ChipAddr} {val : State → Byte} {upd : State → State}
    (hv : ∀ s w, E k s.work w → val (setWork w s) = val s) (hu : QuietUpd upd)
    (hE : ∀ w w', E k w w' → E (k + 1) w w') : Carries E k (writeAct reg val upd) := by
  refine carries_transfer (writeAct_spec reg val upd) (fun s w h => by rw [hv s w h]; rfl)
    (carries_step fun s w h => ⟨w, ?_, ?_⟩)
  · rw [hv s w h]
    exact hu w (afterBus s _)
  · rw [hu.work]
    exact hE s.work w h

/-- A register read into the working registers. -/
theorem carries_readAct {reg : Config.RegMap → ChipAddr} {store : Byte → Work → Work}
    (hE : ∀ v w w', E k w w' → E (k + 1) (store v w) (store v w')) :
    Carries E k (readAct reg fun v s => setWork (store v s.work) s) :=
  carries_transfer (readAct_spec reg _) (fun _ _ _ => rfl)
    (carries_step fun s w h => ⟨store (chipAnswer s) w, rfl, hE _ s.work w h⟩)

end

/-- A value that the working registers do not enter. -/
def Unread {α : Type} (v : State → α) : Prop := ∀ w s, v (setWork w s) = v s

theorem unread_iff {α : Type} {v : State → α} : Unread v ↔ ∀ w s, v (setWork w s) = v s := Iff.rfl

/-- An action that neither reads nor writes the working registers, and goes on to the next step if anywhere. -/
def Inert (a : Act) : Prop :=
  ∀ (E : Nat → Work → Work → Prop) (k : Nat), (∀ w w', E k w w' → E (k + 1) w w') → Carries E k a

@[simp] theorem inert_replyWith {op : Byte} {st : Status} {v : Half} {upd : State → State} (hu : QuietUpd upd) :
    Inert (replyWith op st v upd) :=
  fun _ _ _ => carries_replyWith hu

theorem inert_step {f : State → State} (hf : QuietUpd f) : Inert fun s => .step (f s) :=
  fun _ _ hE => carries_step fun s w h => ⟨w, hf w s, by rw [hf.work]; exact hE s.work w h⟩

@[simp] theorem inert_setAct {f : State → State} (hf : QuietUpd f) : Inert (setAct f) := inert_step hf

@[simp] theorem inert_need {ok : State → Bool} {op : Byte} {st : Status} (hok : Unread ok) :
    Inert (need ok op st) :=
  fun E k hE => carries_ite (fun s w _ => by rw [hok]) (inert_step quietUpd_id E k hE) (carries_replyWith quietUpd_id)

@[simp] theorem inert_needConnected (op : Byte) : Inert (needConnected op) := inert_need fun _ _ => rfl

@[simp] theorem inert_holdAct : Inert holdAct :=
  fun E k hE => carries_ite (fun _ _ _ => Iff.rfl) (inert_step quietUpd_id E k hE) carries_hold

@[simp] theorem inert_writeAct {reg : Config.RegMap → ChipAddr} {val : State → Byte} {upd : State → State}
    (hv : Unread val) (hu : QuietUpd upd) : Inert (writeAct reg val upd) :=
  fun _ _ hE => carries_writeAct (fun s w _ => hv w s) hu hE

@[simp] theorem inert_opModeAct {md : Mode} {upd : State → State} (hu : QuietUpd upd) : Inert (opModeAct md upd) :=
  inert_writeAct (fun _ _ => rfl) (hu.comp (quietUpd_setMode md))

@[simp] theorem inert_armAct (t : Nat) : Inert (armAct t) := by
  unfold armAct
  split <;> simp

@[simp] theorem inert_txReplyAct (st : Status) (kind : EventKind) : Inert (txReplyAct st kind) :=
  inert_replyWith (op := 0x08) (v := 0) (upd := fun s => emit (txEvent kind st (fromEcho s)) s)
    fun w s => quietUpd_emit (txEvent kind st (fromEcho s)) w s

@[simp] theorem inert_echoStartAct : Inert echoStartAct :=
  fun _ _ _ => carries_ite (fun _ _ _ => Iff.rfl) (fun _ _ _ => .fault _) (carries_replyWith quietUpd_echoStarted)

theorem carries_ioErr {E : Nat → Work → Work → Prop} {k : Nat} {f : State → State} (hf : QuietUpd f) :
    Carries E k fun s => .ioErr (f s) := by
  intro s w _
  simp only [hf w s]
  exact .ioErr _ w

/-- A Standby write that ends the message, after an update (R144, R176). -/
theorem carries_standbyDone {E : Nat → Work → Work → Prop} {k : Nat} {f : State → State} (hf : QuietUpd f) :
    Carries E k fun s =>
      if spiErrNow s then .ioErr (afterBus (f s) [.write s.cfg.regmap.opMode (opModeByte .standby)])
      else .done (setMode .standby (afterBus (f s) [.write s.cfg.regmap.opMode (opModeByte .standby)])) :=
  have hwrite : QuietUpd fun s => afterBus (f s) [.write s.cfg.regmap.opMode (opModeByte .standby)] := fun w s => by
    simp only [hf w s]
    rfl
  carries_ite (fun _ _ _ => Iff.rfl) (carries_ioErr hwrite) (carries_done ((quietUpd_setMode .standby).comp hwrite))

@[simp] theorem inert_rxTimeoutAct : Inert rxTimeoutAct := by
  rw [funext rxTimeoutAct_spec]
  exact fun E k _ => carries_ite (fun _ _ _ => Iff.rfl)
    (carries_standbyDone (f := clearFired) fun _ _ => rfl) (carries_done quietUpd_id)

/-! ##### The programs that do without working registers -/

/-- Nothing needs to agree. -/
def noneLive (_ : Nat) (_ _ : Work) : Prop := True

theorem numbered_of_inert {E : Nat → Work → Work → Prop} {k : Nat} {l : List Act} (h : ∀ a ∈ l, Inert a)
    (hE : ∀ j, k ≤ j → j < k + l.length → ∀ w w', E j w w' → E (j + 1) w w') : Numbered (Carries E) k l :=
  numbered_of_forall fun j hj hl a ha => h a ha E j (hE j hj hl)

theorem numbered_noneLive {k : Nat} {l : List Act} (h : ∀ a ∈ l, Inert a) : Numbered (Carries noneLive) k l :=
  numbered_of_inert h fun _ _ _ _ _ _ => trivial

/-! ##### The setters, BEGIN and the queries: x[W_V] -/

/-- x[W_V] agrees from step `r` on. -/
def sinceV (r k : Nat) (w w' : Work) : Prop := r ≤ k → w.v = w'.v

theorem sinceV_succ {r k : Nat} (h : r ≤ k ∨ k + 1 < r) (w w' : Work) (hv : sinceV r k w w') :
    sinceV r (k + 1) w w' := fun hk => hv (by omega)

theorem carries_readV {reg : Config.RegMap → ChipAddr} {r k : Nat} : Carries (sinceV r) k (readAct reg setV) :=
  carries_readAct (store := fun v w => { w with v := v }) fun _ _ _ _ _ => rfl

/-- A value that x[W_V] alone of the working registers enters. -/
def ReadsV {α : Type} (v : State → α) : Prop := ∀ (w : Work) s, v (setWork { w with v := s.work.v } s) = v s

theorem readsV_iff {α : Type} {v : State → α} :
    ReadsV v ↔ ∀ (w : Work) s, v (setWork { w with v := s.work.v } s) = v s := Iff.rfl

/-- An action that may use x[W_V] and keeps it in agreement. -/
def Steady (a : Act) : Prop := ∀ r k, r ≤ k → Carries (sinceV r) k a

theorem Inert.steady {a : Act} (h : Inert a) : Steady a := fun _ _ hk => h _ _ (sinceV_succ (.inl hk))

@[simp] theorem steady_readV {reg : Config.RegMap → ChipAddr} : Steady (readAct reg setV) :=
  fun _ _ _ => carries_readV

@[simp] theorem steady_writeAct {reg : Config.RegMap → ChipAddr} {val : State → Byte}
    (hv : ReadsV val) : Steady (writeAct reg val) := by
  refine fun r k hk => carries_writeAct (fun s w h => ?_) quietUpd_id (sinceV_succ (.inl hk))
  have hw : ({ w with v := s.work.v } : Work) = w := by rw [h hk]
  rw [← hw, hv]

@[simp] theorem steady_opModeAct {md : Mode} : Steady (opModeAct md) := (inert_opModeAct quietUpd_id).steady

theorem numbered_of_steady {r k : Nat} (hk : r ≤ k) {l : List Act} (h : ∀ a ∈ l, Steady a) :
    Numbered (Carries (sinceV r)) k l :=
  numbered_of_forall fun j hj _ a ha => h a ha r j (hk.trans hj)

theorem steady_sfBody (sf : Nat) : ∀ a ∈ sfBody sf, Steady a := by
  unfold sfBody
  split <;> simp [readsV_iff]

theorem steady_bwBody (n : Nat) : ∀ a ∈ bwBody n, Steady a := by
  simp [bwBody, readsV_iff]

theorem steady_crBody (n : Nat) : ∀ a ∈ crBody n, Steady a := by
  simp [crBody, readsV_iff]

/-- A setter that reads a register in its fourth step. -/
theorem numbered_setter_reading {op : Byte} {legal : Bool} {body : List Act} {shadow : RadioCfg → RadioCfg}
    {reg : Config.RegMap → ChipAddr} {tail : List Act}
    (hbody : body = opModeAct .standby :: readAct reg setV :: tail) (hsteady : ∀ a ∈ body, Steady a) :
    Numbered (Carries (sinceV 5)) 1 (setterProg op legal body shadow) := by
  have hstart : Numbered (Carries (sinceV 5)) 1 [needConnected op, need (fun _ => legal) op .invalidParam,
      opModeAct .standby] :=
    numbered_of_inert (by simp [unread_iff]) fun j _ hj => sinceV_succ (.inr (by simp at hj; omega))
  have htail : Numbered (Carries (sinceV 5)) 5
      (tail ++ [replyWith op .ok 0 (fun s => { s with radio := shadow s.radio })]) := by
    refine numbered_of_steady le_rfl fun a ha => ?_
    rcases List.mem_append.mp ha with ha | ha
    · exact hsteady a (by simp [hbody, ha])
    · rw [List.mem_singleton.mp ha]
      exact (inert_replyWith (quietUpd_shadow shadow)).steady
  obtain ⟨h1, h2, h3, -⟩ := hstart
  rw [setterProg, hbody]
  exact ⟨h1, h2, h3, carries_readV, htail⟩

theorem inert_setter {op : Byte} {legal : Bool} {body : List Act} {shadow : RadioCfg → RadioCfg}
    (hbody : ∀ a ∈ body, Inert a) : ∀ a ∈ setterProg op legal body shadow, Inert a := by
  intro a ha
  simp only [setterProg, List.cons_append, List.nil_append, List.mem_cons, List.mem_append, List.not_mem_nil,
    or_false] at ha
  rcases ha with rfl | rfl | ha | rfl
  · simp
  · simp [unread_iff]
  · exact hbody a ha
  · simp

theorem steady_applyDefaults : ∀ a ∈ applyDefaults, Steady a := by
  simp only [applyDefaults, List.forall_mem_append]
  exact ⟨⟨⟨⟨⟨by simp [powerBody, readsV_iff], steady_sfBody 7⟩, steady_bwBody 7⟩, steady_crBody 5⟩, by simp [readsV_iff]⟩,
    by simp [syncBody, readsV_iff]⟩

theorem steady_beginConfig (f : Nat) : ∀ a ∈ beginConfig f, Steady a := by
  simp only [beginConfig, List.forall_mem_append]
  exact ⟨⟨⟨by simp [frfActs, readsV_iff], by simp [readsV_iff]⟩, steady_applyDefaults⟩, by simp⟩

theorem carries_versionAct : Carries (sinceV 11) 11 versionAct :=
  have hclose : QuietUpd fun t =>
      { closeHandles t with eng := { (closeHandles t).eng with mode := .unknown } } := fun _ _ => rfl
  have hv (s : State) (w : Work) (h : sinceV 11 11 s.work w) : s.work.v = w.v := h le_rfl
  carries_ite (fun s w h => by rw [hv s w h]; rfl) (inert_step quietUpd_id _ _ (sinceV_succ (.inl le_rfl)))
    (carries_reply (v := fun s => s.work.v.setWidth 16) (fun s w h => by rw [hv s w h]; rfl) hclose)

/-- BEGIN reads the version in its tenth step, before anything uses x[W_V] (R120, R121). -/
theorem carriesAll_begin (f : Nat) : Numbered (Carries (sinceV 11)) 1
    (beginStart f ++ beginConfig f ++ [replyWith 0x01 .ok 0 (beginDone f)]) := by
  have hinert {a : Act} {j : Nat} (ha : Inert a) (hj : j + 1 < 11 ∨ 11 ≤ j) : Carries (sinceV 11) j a :=
    ha _ _ (sinceV_succ hj.symm)
  have hrest : Numbered (Carries (sinceV 11)) 15 (beginConfig f ++ [replyWith 0x01 .ok 0 (beginDone f)]) := by
    refine numbered_of_steady (by omega) fun a ha => ?_
    rcases List.mem_append.mp ha with ha | ha
    · exact steady_beginConfig f a ha
    · rw [List.mem_singleton.mp ha]
      exact (inert_replyWith (quietUpd_beginDone f)).steady
  rw [List.append_assoc, numbered_append]
  refine ⟨?_, hrest⟩
  simp [beginStart, waitActs, hinert, carries_readV, carries_versionAct, unread_iff]

end Sys2Proof.Machine
end

section

namespace Sys2Proof.Machine

open Sys2Proof.Safety

/-- A query reads its register in its second step (R148, R149). -/
theorem carriesAll_query {op : Byte} {reg : Config.RegMap → ChipAddr} {v : Byte → Half} : Numbered (Carries (sinceV 3)) 1
    [needConnected op, readAct reg setV, fun s => replyWith op .ok (v s.work.v) id s] :=
  ⟨inert_needConnected op _ _ (sinceV_succ (.inr (by omega))), carries_readV,
    carries_reply (v := fun s => v s.work.v) (fun s w h => by rw [h le_rfl]; rfl) quietUpd_id, trivial⟩

/-! ##### TRANSMIT and ECHO_START: x[W_I] -/

/-- x[W_I] agrees at step `j`, which is the one that uses it. -/
def cursorAt (j k : Nat) (w w' : Work) : Prop := k = j → w.i = w'.i

theorem cursorAt_of_ne {j k : Nat} (h : k ≠ j) (w w' : Work) : cursorAt j k w w' := fun hk => absurd hk h

theorem Inert.cursorAt {a : Act} {j k : Nat} (ha : Inert a) (h : k + 1 ≠ j) : Carries (cursorAt j) k a :=
  ha _ _ fun w w' _ => cursorAt_of_ne h w w'

theorem carries_fifoAct (n : Nat) : Carries (cursorAt 5) 5 (fifoAct n) := by
  intro s w h
  have hi : s.work.i = w.i := h rfl
  have hspi : spiErrNow (setWork w s) = spiErrNow s := rfl
  have hbyte : payloadByte (setWork w s) w.i.toNat = payloadByte s w.i.toNat := rfl
  simp only [fifoAct, memWrite_spec, setWork_work, setWork_cfg, hi, hspi, hbyte]
  split
  · exact .ioErr _ w
  · split
    · exact .goto 5 _ { w with i := w.i + 1 } fun _ => rfl
    · exact .step _ { w with i := w.i + 1 } fun _ => rfl

theorem carries_txPollAct : Carries (cursorAt 5) 9 txPollAct := by
  intro s w _
  have hspi : spiErrNow (setWork w s) = spiErrNow s := rfl
  have hanswer : chipAnswer (setWork w s) = chipAnswer s := rfl
  have htx : (setWork w s).tx = s.tx := rfl
  simp only [txPollAct_spec, hspi, hanswer, htx]
  split
  · split
    · exact .ioErr _ w
    · split
      · exact .goto 10 _ { w with irq := chipAnswer s } (cursorAt_of_ne (by omega) _ _)
      · split
        · exact .goto 13 _ { w with irq := chipAnswer s } (cursorAt_of_ne (by omega) _ _)
        · exact .goto 9 _ { w with irq := chipAnswer s } (cursorAt_of_ne (by omega) _ _)
  · exact .hold

/-- A register write that sets x[W_I]. -/
theorem carries_writeAct_setI {reg : Config.RegMap → ChipAddr} {val : State → Byte} {j k : Nat} (x : BitVec 9)
    (hv : Unread val) : Carries (cursorAt j) k (writeAct reg val (setI x)) := by
  refine carries_transfer (writeAct_spec reg val _) (fun s w _ => by rw [hv]; rfl)
    (carries_step fun s w _ => ⟨{ w with i := x }, by rw [hv]; rfl, fun _ => rfl⟩)

theorem carriesAll_transmit (n : Nat) : Numbered (Carries (cursorAt 5)) 1 (transmitProg n) := by
  have hwrite {k : Nat} (reg : Config.RegMap → ChipAddr) (b : Byte) (h : k + 1 ≠ 5) :
      Carries (cursorAt 5) k (writeAct reg fun _ => b) :=
    (inert_writeAct (fun _ _ => rfl) quietUpd_id).cursorAt h
  exact ⟨(inert_needConnected _).cursorAt (by omega), (inert_need fun _ _ => rfl).cursorAt (by omega),
    (inert_opModeAct quietUpd_id).cursorAt (by omega), carries_writeAct_setI 0 fun _ _ => rfl, carries_fifoAct n,
    hwrite _ _ (by omega), hwrite _ _ (by omega), (inert_opModeAct quietUpd_enterTxWait).cursorAt (by omega),
    carries_txPollAct, hwrite _ _ (by omega), (inert_opModeAct quietUpd_leaveTxWait).cursorAt (by omega),
    (inert_txReplyAct _ _).cursorAt (by omega), (inert_opModeAct quietUpd_leaveTxWait).cursorAt (by omega),
    (inert_txReplyAct _ _).cursorAt (by omega), trivial⟩

theorem carries_prefixStartAct (lp : Bool) (plen : Nat) : Carries (cursorAt 4) 3 (prefixStartAct lp plen) :=
  carries_ite (fun _ _ _ => Iff.rfl)
    (carries_step fun _ w _ => ⟨{ w with i := 0 }, rfl, fun _ => rfl⟩)
    (carries_goto (f := id) fun _ w _ => ⟨w, rfl, cursorAt_of_ne (by omega) _ _⟩)

theorem carries_prefixCopyAct (plen : Nat) : Carries (cursorAt 4) 4 (prefixCopyAct plen) := by
  intro s w h
  have hi : s.work.i = w.i := h rfl
  have hbyte : txByte (setWork w s) w.i.toNat = txByte s w.i.toNat := rfl
  simp only [prefixCopyAct, setWork_work, setWork_ectl, hi, hbyte]
  split
  · exact .goto 4 _ { w with i := w.i + 1 } fun _ => rfl
  · exact .step _ { w with i := w.i + 1 } fun _ => rfl

theorem carriesAll_echoStart (lp ld : Bool) (delay plen : Nat) :
    Numbered (Carries (cursorAt 4)) 1 (echoStartProg lp ld delay plen) :=
  ⟨(inert_need fun _ _ => rfl).cursorAt (by omega), (inert_need fun _ _ => rfl).cursorAt (by omega),
    carries_prefixStartAct lp plen, carries_prefixCopyAct plen,
    (inert_setAct (quietUpd_loadPlen lp plen)).cursorAt (by omega),
    (inert_setAct (quietUpd_loadDelay ld delay)).cursorAt (by omega), inert_echoStartAct.cursorAt (by omega), trivial⟩

/-! ##### The commands -/

/-- Every command's program carries what it needs of the working registers, and needs nothing at its first step. -/
theorem exists_carriesAll_instr (c : Config.Params) (i : Instr) :
    ∃ E, (∀ w w', E 1 w w') ∧ Numbered (Carries E) 1 (instrProg c i) := by
  have hinert (h : ∀ a ∈ instrProg c i, Inert a) : ∃ E, (∀ w w', E 1 w w') ∧ Numbered (Carries E) 1 (instrProg c i) :=
    ⟨noneLive, fun _ _ => trivial, numbered_noneLive h⟩
  have hv {r : Nat} (hr : 1 < r) (w w' : Work) : sinceV r 1 w w' := fun h => absurd h (by omega)
  cases i
  case begin f => exact ⟨_, hv (by omega), carriesAll_begin f⟩
  case setSf sf =>
    refine ⟨sinceV 5, hv (by omega), ?_⟩
    unfold instrProg
    exact numbered_setter_reading (by rfl) (steady_sfBody sf)
  case setBw n =>
    refine ⟨sinceV 5, hv (by omega), ?_⟩
    unfold instrProg
    exact numbered_setter_reading (by rfl) (steady_bwBody n)
  case setCr n =>
    refine ⟨sinceV 5, hv (by omega), ?_⟩
    unfold instrProg
    exact numbered_setter_reading (by rfl) (steady_crBody n)
  case setFrequency f => exact hinert (by unfold instrProg; exact inert_setter (by simp [frfActs, unread_iff]))
  case setTxPower p => exact hinert (by unfold instrProg; exact inert_setter (by simp [powerBody, unread_iff]))
  case setSyncWord b => exact hinert (by unfold instrProg; exact inert_setter (by simp [syncBody, unread_iff]))
  case transmit n => exact ⟨_, cursorAt_of_ne (j := 5) (by omega), carriesAll_transmit n⟩
  case echoStart lp ld delay plen =>
    exact ⟨_, cursorAt_of_ne (j := 4) (by omega), carriesAll_echoStart lp ld delay plen⟩
  case getRssi => exact ⟨_, hv (by omega), carriesAll_query⟩
  case getVersion => exact ⟨_, hv (by omega), carriesAll_query (v := fun v => v.setWidth 16)⟩
  all_goals exact hinert (by simp [instrProg, waitActs, unread_iff])

end Sys2Proof.Machine
end

section

namespace Sys2Proof.Machine

open Sys2Proof.Safety

/-! ##### The DIO0 dispatch -/

/-- What the steps of a DIO0 dispatch use of the working registers (R170 to R177). -/
def dispatchUses : Nat → Work → Work → Prop
  | 3, w, w' => w.irq = w'.irq
  | 6, w, w' => w.a = w'.a
  | 8, w, w' => w.n = w'.n
  | 9, w, w' => w.n = w'.n ∧ w.i = w'.i ∧ w.i.toNat < w.n.toNat ∧ w.rxb.take w.i.toNat = w'.rxb.take w.i.toNat
  | 10, w, w' => w.n = w'.n ∧ w.rxb.take w.n.toNat = w'.rxb.take w.n.toNat
  | 11, w, w' => w.n = w'.n ∧ w.rxb.take w.n.toNat = w'.rxb.take w.n.toNat ∧ w.rssi = w'.rssi
  | 12, w, w' => w.n = w'.n ∧ w.rxb.take w.n.toNat = w'.rxb.take w.n.toNat ∧ w.rssi = w'.rssi ∧ w.snr = w'.snr
  | 15, w, w' => w.irq = w'.irq
  | _, _, _ => True

/-- What two contents of the working registers must agree on in a DIO0 dispatch, both with a whole x[RXB] (R29). -/
def dispatchLive (k : Nat) (w w' : Work) : Prop :=
  w.rxb.length = 255 ∧ w'.rxb.length = 255 ∧ dispatchUses k w w'

/-- A write whose value the step's registers determine, to a step that uses none. -/
theorem carries_dispatchWrite {k : Nat} {reg : Config.RegMap → ChipAddr} {val : State → Byte}
    (hv : ∀ s w, dispatchUses k s.work w → val (setWork w s) = val s) (hnext : ∀ w w', dispatchUses (k + 1) w w') :
    Carries dispatchLive k (writeAct reg val) :=
  carries_writeAct (fun s w h => hv s w h.2.2) quietUpd_id fun w w' h => ⟨h.1, h.2.1, hnext w w'⟩

/-- A read into a register other than x[RXB]. -/
theorem carries_dispatchRead {k : Nat} {reg : Config.RegMap → ChipAddr} {store : Byte → Work → Work}
    (hrxb : ∀ v w, (store v w).rxb = w.rxb)
    (hnext : ∀ v w w', dispatchUses k w w' → dispatchUses (k + 1) (store v w) (store v w')) :
    Carries dispatchLive k (readAct reg fun v s => setWork (store v s.work) s) :=
  carries_readAct fun v w w' ⟨hlen, hlen', h⟩ =>
    ⟨by rw [hrxb, hlen], by rw [hrxb, hlen'], hnext v w w' h⟩

theorem carries_edgeConnectedAct : Carries dispatchLive 1 edgeConnectedAct :=
  carries_ite (fun _ _ _ => Iff.rfl)
    (carries_step (f := id) fun _ w h => ⟨w, rfl, h⟩) (carries_done quietUpd_id)

theorem carries_edgeBranchAct : Carries dispatchLive 3 edgeBranchAct := by
  have hirq (s : State) (w : Work) (h : dispatchLive 3 s.work w) : s.work.irq = w.irq := h.2.2
  exact carries_ite (fun s w h => by rw [hirq s w h]; rfl)
    (carries_ite (fun s w h => by rw [hirq s w h]; rfl)
      (carries_goto (E := dispatchLive) (f := id) fun _ w h => ⟨w, rfl, h.1, h.2.1, trivial⟩)
      (carries_goto (E := dispatchLive) (f := id) fun _ w h => ⟨w, rfl, h.1, h.2.1, trivial⟩))
    (carries_goto (E := dispatchLive) (f := id) fun _ w h => ⟨w, rfl, h⟩)

theorem carries_crcDropAct : Carries dispatchLive 4 crcDropAct :=
  carries_transfer (e := fun s => .write s.cfg.regmap.irqFlags (irqRxDone ||| irqCrcErr)) (fun _ => rfl)
    (fun _ _ _ => rfl) (carries_goto (E := dispatchLive) fun _ w h => ⟨w, rfl, h.1, h.2.1, trivial⟩)

theorem carries_frameLengthAct : Carries dispatchLive 8 frameLengthAct := by
  rintro s w ⟨hlen, hlen', hn⟩
  have hn : s.work.n = w.n := hn
  by_cases hzero : s.work.n = 0
  · have hzero' : (setWork w s).work.n = 0 := hn.symm.trans hzero
    simp only [frameLengthAct, if_pos hzero, if_pos hzero']
    have hlive : dispatchLive 13 s.work w := ⟨hlen, hlen', trivial⟩
    exact .goto 13 s w hlive
  · have hzero' : ¬ (setWork w s).work.n = 0 := fun h => hzero (hn.trans h)
    simp only [frameLengthAct, if_neg hzero, if_neg hzero']
    have hpos : 0 < s.work.n.toNat := Nat.pos_of_ne_zero fun h => hzero (BitVec.eq_of_toNat_eq h)
    have hlive : dispatchLive 9 (setI 0 s).work { w with i := 0 } := ⟨hlen, hlen', hn, rfl, hpos, rfl⟩
    exact .step (setI 0 s) _ hlive

/-- One byte received extends the part of x[RXB] that agrees. -/
theorem take_set_succ {l l' : List Byte} {i : Nat} (v : Byte) (hl : i < l.length) (hl' : i < l'.length)
    (h : l.take i = l'.take i) : (l.set i v).take (i + 1) = (l'.set i v).take (i + 1) := by
  rw [List.take_add_one, List.take_add_one, List.take_set_of_le le_rfl, List.take_set_of_le le_rfl, h]
  simp [hl, hl']

theorem carries_rxFifoAct : Carries dispatchLive 9 rxFifoAct := by
  rintro s w ⟨hlen, hlen', hn, hi, hlt, htake⟩
  have hspi : spiErrNow (setWork w s) = spiErrNow s := rfl
  have hanswer : chipAnswer (setWork w s) = chipAnswer s := rfl
  have hn' : s.work.n.toNat < 256 := s.work.n.isLt
  have hsucc : (s.work.i + 1).toNat = s.work.i.toNat + 1 := by
    rw [BitVec.toNat_add]
    exact Nat.mod_eq_of_lt (show s.work.i.toNat + 1 < 512 by omega)
  have hnext := take_set_succ (chipAnswer s) (by omega) (by omega) htake
  simp only [rxFifoAct_spec, setWork_work, setWork_cfg, hspi, hanswer, ← hn, ← hi]
  split
  · exact .ioErr _ w
  · split
    · refine .goto 9 _ { w with n := s.work.n, rxb := w.rxb.set s.work.i.toNat (chipAnswer s), i := s.work.i + 1 } ?_
      exact ⟨List.length_set.trans hlen, List.length_set.trans hlen', rfl, rfl, hsucc.trans_lt ‹_›,
        by simpa only [setWork_work, hsucc] using hnext⟩
    · refine .step _ { w with n := s.work.n, rxb := w.rxb.set s.work.i.toNat (chipAnswer s), i := s.work.i + 1 } ?_
      have hall : s.work.n.toNat = s.work.i.toNat + 1 := by omega
      exact ⟨List.length_set.trans hlen, List.length_set.trans hlen', rfl,
        by simpa only [setWork_work, hall] using hnext⟩

theorem carries_rxEmit : Carries dispatchLive 12 (setAct fun s => emit (rxEvent s) s) :=
  carries_step fun s w ⟨hlen, hlen', hn, htake, hrssi, hsnr⟩ => by
    have hevent : rxEvent (setWork w s) = rxEvent s := by
      simp only [rxEvent, setWork_work, ← hn, ← hrssi, ← hsnr, htake]
    refine ⟨w, ?_, ?_, hlen', trivial⟩
    · rw [hevent]
      exact quietUpd_emit (rxEvent s) w s
    · rw [emit_work]
      exact hlen

theorem carries_rxEndAct : Carries dispatchLive 14 rxEndAct := by
  rw [funext rxEndAct_spec]
  exact carries_ite (fun _ _ _ => Iff.rfl) (carries_standbyDone quietUpd_id) (carries_done quietUpd_id)

theorem carries_spuriousAct : Carries dispatchLive 15 spuriousAct := by
  rintro s w ⟨-, -, hirq⟩
  have hirq : s.work.irq = w.irq := hirq
  have hspi : spiErrNow (setWork w s) = spiErrNow s := rfl
  simp only [spuriousAct_spec, setWork_work, setWork_cfg, hirq, hspi]
  split
  · exact .done _ w
  · split
    · exact .ioErr _ w
    · exact .done _ w

theorem carriesAll_dispatch : Numbered (Carries dispatchLive) 1 dispatchProg :=
  ⟨carries_edgeConnectedAct,
   carries_dispatchRead (store := fun v w => { w with irq := v }) (fun _ _ => rfl) (fun _ _ _ _ => rfl),
   carries_edgeBranchAct, carries_crcDropAct,
   carries_dispatchRead (store := fun v w => { w with a := v }) (fun _ _ => rfl) (fun _ _ _ _ => rfl),
   carries_dispatchWrite (fun _ _ h => h.symm) (fun _ _ => trivial),
   carries_dispatchRead (store := fun v w => { w with n := v }) (fun _ _ => rfl) (fun _ _ _ _ => rfl),
   carries_frameLengthAct, carries_rxFifoAct,
   carries_dispatchRead (store := fun v w => { w with rssi := v }) (fun _ _ => rfl)
     (fun _ _ _ ⟨hn, htake⟩ => ⟨hn, htake, rfl⟩),
   carries_dispatchRead (store := fun v w => { w with snr := v }) (fun _ _ => rfl)
     (fun _ _ _ ⟨hn, htake, hrssi⟩ => ⟨hn, htake, hrssi, rfl⟩),
   carries_rxEmit, carries_dispatchWrite (fun _ _ _ => rfl) (fun _ _ => trivial), carries_rxEndAct,
   carries_spuriousAct, trivial⟩

/-! ##### The messages -/

/-- A message's program carries what it needs of the working registers, and needs nothing of them at its first step but
a whole x[RXB]. -/
theorem exists_carriesAll_msg (c : Config.Params) (m : Msg) :
    ∃ E, (∀ w w' : Work, w.rxb.length = 255 → w'.rxb.length = 255 → E 1 w w') ∧
      Numbered (Carries E) 1 (msgProg c m) := by
  have hinstr (i : Instr) : ∃ E, (∀ w w' : Work, w.rxb.length = 255 → w'.rxb.length = 255 → E 1 w w') ∧
      Numbered (Carries E) 1 (instrProg c i) := by
    obtain ⟨E, hstart, hprog⟩ := exists_carriesAll_instr c i
    exact ⟨E, fun w w' _ _ => hstart w w', hprog⟩
  rcases m with w | ⟨_ | _, arg, sess⟩ | _ | _
  case hcmd =>
    simp only [msgProg]
    split
    · exact hinstr _
    · exact ⟨noneLive, fun _ _ _ _ => trivial, numbered_noneLive (by simp)⟩
  case ecall.receiveMode => exact hinstr (.receiveMode arg.toNat)
  case ecall.transmit => exact hinstr (.transmit arg.toNat)
  case edge => exact ⟨dispatchLive, fun _ _ h h' => ⟨h, h', trivial⟩, carriesAll_dispatch⟩
  case rxtmo => exact ⟨noneLive, fun _ _ _ _ => trivial, numbered_noneLive (by simp [msgProg])⟩

end Sys2Proof.Machine

namespace Sys2Proof.Proofs

open Sys2Proof.Machine Sys2Proof.Safety

/-- Settles O51: step by step, both runs agree on the working registers that the steps to come read. -/
theorem workingRegistersAreWrittenFirst : Obligations.WorkingRegistersAreWrittenFirst := by
  intro m s t hpc hsame hlen hlen'
  obtain ⟨E, hstart, hprog⟩ := exists_carriesAll_msg s.cfg m
  have ht : t = setWork t.work s := hsame.symm
  have hpc' : (setWork t.work s).eng.pc = .run m 1 := hpc
  rw [ht, runMsg_eq_runMessage, runMsg_eq_runMessage, runMessage_run hpc, runMessage_run hpc']
  exact runActs_sameButWork hprog _ 1 s t.work (hstart _ _ hlen hlen')

end Sys2Proof.Proofs
end

/-! ### The host's command words and popping reads -/

section

namespace Sys2Proof.Machine

/-- A write of CMD_ARG keeps the word for the write of CMD_OP (R66). -/
theorem hostWrite_cmdArg (d : Word) (s : State) :
    hostWrite 0x010 d s = { s with host := { s.host with cmdArg := d } } := rfl

/-- A write of CMD_OP enters a command (R66). -/
theorem hostWrite_cmdOp (d : Word) (s : State) : hostWrite 0x014 d s = pushCommand d s := rfl

/-- A command word is its high half followed by its low half (R80). -/
theorem cmdWord_halves (w : CmdWord) : w.extractLsb' 32 32 ++ w.extractLsb' 0 32 = w := by
  rw [BitVec.extractLsb'_append_extractLsb'_eq_extractLsb' (by rfl)]
  exact BitVec.extractLsb'_eq_self

/-- A read of any offset but RSP, EVT_HDR and EVT_DATA has no side effect (R69). -/
theorem csrReadEffect_other {off : Nat} (s : State) (h : off ∉ [0x018, 0x01C, 0x024]) : csrReadEffect off s = s := by
  unfold csrReadEffect
  split
  case h_4 => rfl
  all_goals simp at h

/-- No register shows the word that the last read returned (log 16). -/
theorem csrValue_rdata (v : Word) (s : State) (off : Nat) :
    csrValue { s with host := { s.host with rdata := v } } off = csrValue s off := rfl

/-- A read with no side effect returns the register's word. -/
theorem hostRead_other {a : BusAddr} (s : State) (h : csrOffset a ∉ [0x018, 0x01C, 0x024]) :
    hostRead a s = { s with host := { s.host with rdata := csrValue s (csrOffset a) } } := by
  simp only [hostRead, csrReadEffect_other s h]

/-- RSP returns the word of RSPQ's head and removes the head (R69). -/
theorem hostRead_rsp (s : State) :
    hostRead 0x018 s = { s with rspq := s.rspq.tail, host := { s.host with rdata := rspWord s } } := rfl

/-- EVT_HDR returns the header of EVTQ's head, by its side effect on EVTQ and EVT_CUR (R69). -/
theorem hostRead_evtHdr (s : State) :
    hostRead 0x01C s = { popEvent s with host := { (popEvent s).host with rdata := evtHdrWord s } } := rfl

/-- EVT_DATA returns the next byte of EVT_CUR, by its side effect on the read index (R69, R88). -/
theorem hostRead_evtData (s : State) :
    hostRead 0x024 s =
      { popEventByte s with host := { (popEventByte s).host with rdata := evtDataWord s } } := rfl

/-- With a byte left, EVT_DATA's word is the byte with VALID, and the read index moves (R69, R88). -/
theorem evtData_byte {s : State} {c : EvtCur} {b : Byte} (hcur : s.evtCur = some c)
    (hb : c.record.event.bytes[c.idx]? = some b) :
    evtDataWord s = (0 : BitVec 23) ++ (1 : BitVec 1) ++ b ∧
    popEventByte s = { s with evtCur := some { c with idx := c.idx + 1 } } := by
  have hidx : c.idx < c.record.event.bytes.length := (List.getElem?_eq_some_iff.mp hb).1
  simp only [evtDataWord, popEventByte, hcur, hb, if_pos hidx, and_self]

/-- With no byte left, EVT_DATA's word is 0, and nothing moves (R69, R88). -/
theorem evtData_none {s : State} (h : ∀ c, s.evtCur = some c → c.record.event.bytes[c.idx]? = none) :
    evtDataWord s = 0 ∧ popEventByte s = s := by
  rcases hcur : s.evtCur with _ | c
  · simp only [evtDataWord, popEventByte, hcur, and_self]
  · have hb := h c hcur
    have hidx : ¬ c.idx < c.record.event.bytes.length := by simpa using hb
    simp only [evtDataWord, popEventByte, hcur, hb, if_neg hidx, and_self]

end Sys2Proof.Machine

namespace Sys2Proof.Proofs

open Sys2Proof.Machine Sys2Proof.Safety

/-- Settles O38: the two halves that the writes give make up the word. -/
theorem commandWritePushesTheWord : Obligations.CommandWritePushesTheWord := by
  intro w s
  rw [hostWrite_cmdArg, hostWrite_cmdOp]
  simp only [pushCommand, cmdWord_halves]

/-- Settles O40, by the register read and what it finds to pop. -/
theorem poppingReads : Obligations.PoppingReads := by
  intro s
  refine ⟨fun hq => ?_, fun st op v rest hq => ?_, fun hq => ?_, fun e rest hq => ?_, fun hcur => ?_,
    fun c hcur => ⟨fun b hb => ?_, fun hb => ?_⟩, fun a hoff => ?_⟩
  · simp only [hostRead_rsp, rspWord, hq, List.tail_nil]
  · simp only [hostRead_rsp, rspWord, responseWord, hq, List.tail_cons]
  · simp only [hostRead_evtHdr, popEvent, evtHdrWord, hq]
  · simp only [hostRead_evtHdr, popEvent, evtHdrWord, eventHdrWord, countByte, hq]
  · obtain ⟨hword, hpop⟩ := evtData_none (s := s) (by simp [hcur])
    rw [hostRead_evtData, hword, hpop]
  · obtain ⟨hword, hpop⟩ := evtData_byte hcur hb
    rw [hostRead_evtData, hword, hpop]
  · obtain ⟨hword, hpop⟩ := evtData_none (s := s) fun c' hc' => by rwa [← Option.some.inj (hcur.symm.trans hc')]
    rw [hostRead_evtData, hword, hpop]
  · rw [← csrOffset_eq] at hoff
    refine ⟨by rw [hostRead_other s hoff], ?_⟩
    simp only [hostRead_other _ hoff, csrValue_rdata]

end Sys2Proof.Proofs

end

/-! ### The SPI frame -/

section

namespace Sys2Proof.Machine

open Sys2Proof.Safety

/-- SCLK rises once in a cycle, on the cycle's bit, whatever sample stands before it (R100). -/
theorem sclkRises_spiBit (p : SpiSample) (b : Bool) (l : List SpiSample) :
    sclkRises (p :: (spiBit b ++ l)) = b :: sclkRises (⟨false, true, b⟩ :: l) := by
  simp [spiBit, sclkRises]

/-- Over cycles one after the other, and a tail on which SCLK does not rise, SCLK rises on the cycles' bits in order. -/
theorem sclkRises_cycles {tail : List SpiSample} (htail : ∀ p, sclkRises (p :: tail) = []) (bits : List Bool)
    (p : SpiSample) : sclkRises (p :: (bits.flatMap spiBit ++ tail)) = bits := by
  induction bits generalizing p with
  | nil => exact htail p
  | cons b bits ih => rw [List.flatMap_cons, List.append_assoc, sclkRises_spiBit, ih]

/-- Chip-select is low through any number of cycles (R103). -/
theorem cs_of_cycles (bits : List Bool) :
    (bits.flatMap spiBit).map (·.cs) = List.replicate (2 * bits.length) false := by
  induction bits with
  | nil => rfl
  | cons b bits ih =>
    rw [List.flatMap_cons, List.map_append, ih, List.length_cons, Nat.mul_succ, Nat.add_comm, List.replicate_add]
    rfl

/-- The pins of a transfer are the cycles of the frame's bits, between the fall and the rise of chip-select. -/
theorem spiWave_eq (f : BitVec 16) :
    spiWave f = ⟨false, false, false⟩ :: (((List.range 16).map f.getMsbD).flatMap spiBit ++
      [⟨false, false, false⟩, ⟨true, false, false⟩]) := by
  rw [spiWave, List.flatMap_map, List.append_assoc, List.singleton_append]

/-- The address byte of a read: the write bit is 0 (R63). -/
theorem readAddr_byte (a : ChipAddr) : (0 : BitVec 1) ++ a = a.setWidth 8 :=
  BitVec.setWidth_eq_append (by omega) |>.symm

/-- The address byte of a write: the write bit is its top bit (R63). -/
theorem writeAddr_byte (a : ChipAddr) : (1 : BitVec 1) ++ a = 0x80 ||| a.setWidth 8 := by
  have htop : (0x80 : Byte) = (1 : BitVec 1) ++ (0 : BitVec 7) := rfl
  rw [← readAddr_byte, htop, BitVec.or_append]
  exact congrArg ((1 : BitVec 1) ++ ·) BitVec.zero_or.symm

end Sys2Proof.Machine

namespace Sys2Proof.Proofs

open Sys2Proof.Machine Sys2Proof.Safety

/-- Settles O44, from the cycles that make up a transfer. -/
theorem spiFrameOnThePins : Obligations.SpiFrameOnThePins := by
  refine ⟨fun a v => ⟨?_, ?_⟩, fun f => ⟨?_, ?_⟩⟩
  · rw [mosiFrame, writeAddr_byte]
  · rw [mosiFrame, readAddr_byte]
  · rw [spiWave_eq]
    exact sclkRises_cycles (fun p => by simp [sclkRises]) _ _
  · rw [spiWave_eq, List.map_cons, List.map_append, cs_of_cycles]
    rfl

end Sys2Proof.Proofs

end

/-! ### SET_FREQUENCY -/

section

namespace Sys2Proof.Machine

open Sys2Proof.Safety

/-- Transfers and a change of mode do not depend on each other. -/
theorem afterBus_setMode (md : Mode) (s : State) (l : List BusEvent) :
    afterBus (setMode md s) l = setMode md (afterBus s l) := rfl

section
variable {op : Option Byte} {prog : List Act} {m : Msg} {n k : Nat} {s : State}

/-- In a setter, past its Standby write: a further register write that does not fail. -/
theorem runActs_write_after {reg : Config.RegMap → ChipAddr} {v : Byte} {md : Mode} {l : List BusEvent} {j : Nat}
    (ha : stepAt prog k = some (writeAct reg (fun _ => v))) (herr : noSpiErr s j) (hl : l.countP isTransfer < j) :
    runActs op prog m (n + 1) k (setMode md (afterBus s l)) =
      runActs op prog m n (k + 1) (setMode md (afterBus s (l ++ [.write (reg s.cfg.regmap) v]))) := by
  have hnow : spiErrNow (setMode md (afterBus s l)) = false := spiErrNow_later herr _ hl rfl rfl rfl
  rw [runActs_write ha hnow, id, afterBus_setMode, afterBus_afterBus]
  rfl

/-- The start of a setter: its checks pass, and the Standby write is made (R134, R140, R153). -/
theorem runActs_setter_start {o : Byte} {legal : Bool} {body : List Act} {shadow : RadioCfg → RadioCfg}
    (hconn : s.eng.connected = true) (hlegal : legal = true) (herr : spiErrNow s = false) :
    runActs op (setterProg o legal (opModeAct .standby :: body) shadow) m (n + 3) 1 s =
      runActs op (setterProg o legal (opModeAct .standby :: body) shadow) m n 4
        (setMode .standby (afterBus s [.write s.cfg.regmap.opMode 0x81])) := by
  rw [runActs_need rfl hconn, runActs_need rfl hlegal, runActs_opMode rfl herr]
  rfl

end

end Sys2Proof.Machine

namespace Sys2Proof.Proofs

open Sys2Proof.Machine Sys2Proof.Safety

/-- Settles O12: the checks and the Standby write, the three bytes, and the reply. -/
theorem setFrequencyCompletes : Obligations.SetFrequencyCompletes := by
  intro f m s hpc hconn hlo hhi hroom herr hquant frf r
  obtain ⟨n, hn⟩ := Nat.exists_eq_add_of_le' hquant
  have hlegal : operandsLegal s.cfg (.setFrequency f) = true := by
    simp [operandsLegal, freqOk, hlo, hhi]
  have hreply (l : List BusEvent) : canReply (setMode .standby (afterBus s l)) = true :=
    canReply_later hroom rfl rfl rfl
  rw [exec_eq_runMessage, runMessage_run hpc, hn, instrProg,
    runActs_setter_start (n := n + 4) hconn hlegal (noSpiErr_now herr (by decide)),
    runActs_write_after rfl herr (by simp), runActs_write_after rfl herr (by simp [List.countP_cons]),
    runActs_write_after rfl herr (by simp [List.countP_cons]), runActs_reply rfl (hreply _)]
  rfl

end Sys2Proof.Proofs
end

/-! ### Command words: the fields a command is decoded from -/

section

namespace Sys2Proof

/-! #### Slices of a word -/

/-- A slice of a slice, wherever the outer one begins. -/
theorem extractLsb'_slice {n a b l l' : Nat} (x : BitVec n) (h : b + l ≤ l') :
    (x.extractLsb' a l').extractLsb' b l = x.extractLsb' (a + b) l := by
  ext i hi
  have hlt : b + i < l' := by omega
  simp [hlt, Nat.add_assoc]

/-- Words that agree in a slice agree in every slice of it. -/
theorem extractLsb'_congr {n a l' : Nat} {x y : BitVec n} (h : x.extractLsb' a l' = y.extractLsb' a l') (b l : Nat)
    (hl : b + l ≤ l') : x.extractLsb' (a + b) l = y.extractLsb' (a + b) l := by
  rw [← extractLsb'_slice x hl, ← extractLsb'_slice y hl, h]

/-- Words that agree in a slice agree in every bit of it. -/
theorem getLsbD_congr {n a l : Nat} {x y : BitVec n} (h : x.extractLsb' a l = y.extractLsb' a l) (b : Nat)
    (hb : b < l) : x.getLsbD (a + b) = y.getLsbD (a + b) := by
  simpa [hb] using congrArg (·.getLsbD b) h

/-! #### Decoding, by the value of OP -/

section
variable {w w' : CmdWord}

/-- A reserved opcode has no command (R83). -/
theorem decode_of_reserved (h : opField w = 0 ∨ 0x14 ≤ (opField w).toNat) :
    decode w = .error (.reservedOpcode (opField w)) := by
  rcases h with h | h
  · simp [decode, h]
  · unfold decode
    split
    case h_20 => rfl
    all_goals
      rename_i hop
      rw [hop] at h
      contradiction

/-- The opcodes 0x01 to 0x13 each have a command (R82). -/
theorem decode_of_opcode (hlo : 1 ≤ (opField w).toNat) (hhi : (opField w).toNat ≤ 0x13) :
    ∃ i, decode w = .ok i := by
  unfold decode
  split
  case h_20 =>
    interval_cases (opField w).toNat <;> contradiction
  all_goals exact ⟨_, rfl⟩

/-- The commands of the opcodes 0x01 to 0x09 have the whole ARG as their operand (R90). -/
theorem decode_of_arg (hhi : (opField w).toNat ≤ 9) (hop : opField w = opField w') (harg : argField w = argField w') :
    decode w = decode w' := by
  simp only [decode, ← hop, ← harg]
  interval_cases (opField w).toNat <;> rfl

/-- The commands of the opcodes 0x0A to 0x0F have no operand (R82). -/
theorem decode_of_noOperand (hlo : 0x0A ≤ (opField w).toNat) (hhi : (opField w).toNat ≤ 0x0F)
    (hop : opField w = opField w') : decode w = decode w' := by
  simp only [decode, ← hop]
  interval_cases (opField w).toNat <;> rfl

/-- SUBSCRIBE: the subscriber id is SUB[2:0] (R90). -/
theorem decode_subscribe (hop : (opField w).toNat = 0x10) :
    decode w = .ok (.subscribe (w.extractLsb' 48 3).toNat) := by
  rw [← extractLsb'_slice (a := 48) (b := 0) (l' := 8) w (by omega)]
  simp only [decode, hop, subField]

/-- UNSUBSCRIBE: the subscriber id is SUB[2:0] (R90). -/
theorem decode_unsubscribe (hop : (opField w).toNat = 0x11) :
    decode w = .ok (.unsubscribe (w.extractLsb' 48 3).toNat) := by
  rw [← extractLsb'_slice (a := 48) (b := 0) (l' := 8) w (by omega)]
  simp only [decode, hop, subField]

/-- ECHO_START: the flags are SUB[0] and SUB[1], the delay is ARG[15:0] and PLEN is ARG[23:16] (R90). -/
theorem decode_echoStart (hop : (opField w).toNat = 0x12) :
    decode w = .ok (.echoStart (w.getLsbD 48) (w.getLsbD 49) (w.extractLsb' 0 16).toNat
      (w.extractLsb' 16 8).toNat) := by
  have hflag (b : Nat) (hb : b < 8) : (subField w).getLsbD b = w.getLsbD (48 + b) := by
    simp [subField, hb]
  have hdelay : (argField w).extractLsb' 0 16 = w.extractLsb' 0 16 := extractLsb'_slice w (by omega)
  have hplen : (argField w).extractLsb' 16 8 = w.extractLsb' 16 8 := extractLsb'_slice w (by omega)
  simp only [decode, hop, hflag 0 (by omega), hflag 1 (by omega), hdelay, hplen]

/-- ECHO_STOP has no operand (R82). -/
theorem decode_echoStop (hop : (opField w).toNat = 0x13) : decode w = .ok .echoStop := by
  simp only [decode, hop]

/-- The commands of the opcodes 0x10 and 0x11 have SUB[2:0] as their operand (R90). -/
theorem decode_of_subscriber (hsub : (opField w).toNat = 0x10 ∨ (opField w).toNat = 0x11)
    (hop : opField w = opField w') (hid : w.extractLsb' 48 3 = w'.extractLsb' 48 3) : decode w = decode w' := by
  rcases hsub with h | h
  · rw [decode_subscribe h, decode_subscribe (hop ▸ h), hid]
  · rw [decode_unsubscribe h, decode_unsubscribe (hop ▸ h), hid]

/-- The command of opcode 0x12 has SUB[1:0] and ARG[23:0] as its operands (R90). -/
theorem decode_of_echoStart (h : (opField w).toNat = 0x12) (hop : opField w = opField w')
    (hsub : w.extractLsb' 48 2 = w'.extractLsb' 48 2) (harg : w.extractLsb' 0 24 = w'.extractLsb' 0 24) :
    decode w = decode w' := by
  rw [decode_echoStart h, decode_echoStart (hop ▸ h), getLsbD_congr hsub 0 (by omega), getLsbD_congr hsub 1 (by omega),
    extractLsb'_congr harg 0 16 (by omega), extractLsb'_congr harg 16 8 (by omega)]

/-- ECHO_STOP and the reserved opcodes above it have no operand (R82, R83). -/
theorem decode_of_high (hlo : 0x13 ≤ (opField w).toNat) (hop : opField w = opField w') : decode w = decode w' := by
  rcases Nat.eq_or_lt_of_le hlo with h | h
  · rw [decode_echoStop h.symm, decode_echoStop (hop ▸ h.symm)]
  · rw [decode_of_reserved (.inr h), decode_of_reserved (.inr (hop ▸ h)), hop]

/-- OP is a command's exactly from 0x01 to 0x13 (R82, R83). -/
theorem decode_isCommand_iff : (∃ i, decode w = .ok i) ↔ 1 ≤ (opField w).toNat ∧ (opField w).toNat ≤ 0x13 := by
  refine ⟨fun ⟨i, hi⟩ => ?_, fun ⟨hlo, hhi⟩ => decode_of_opcode hlo hhi⟩
  by_contra hout
  have hreserved : opField w = 0 ∨ 0x14 ≤ (opField w).toNat := by bv_omega
  rw [decode_of_reserved hreserved] at hi
  cases hi

end

/-! #### Decoding what was encoded -/

/-- A number that fits its operand field is what the field holds (R90). -/
theorem toNat_operand {k n : Nat} (h : n < 2 ^ k) : (BitVec.ofNat k n).toNat = n := by
  rw [BitVec.toNat_ofNat, Nat.mod_eq_of_lt h]

/-- SUB of an encoded SUBSCRIBE or UNSUBSCRIBE holds the subscriber id in its low three bits (R90). -/
theorem subscriber_of_sub (id' : BitVec 3) : ((0 : BitVec 5) ++ id').extractLsb' 0 3 = id' := by
  rw [BitVec.extractLsb'_append_eq_of_add_le (by omega), BitVec.extractLsb'_eq_self]

/-- SUB of an encoded ECHO_START holds LOAD_PREFIX in bit 0 and LOAD_DELAY in bit 1 (R90). -/
theorem flags_of_sub (lp ld : Bool) :
    ((0 : BitVec 6) ++ BitVec.ofBool ld ++ BitVec.ofBool lp).getLsbD 0 = lp ∧
    ((0 : BitVec 6) ++ BitVec.ofBool ld ++ BitVec.ofBool lp).getLsbD 1 = ld := by
  cases lp <;> cases ld <;> decide

/-- ARG of an encoded ECHO_START holds the delay in its low half and PLEN above it (R90). -/
theorem operands_of_arg (plen : BitVec 8) (delay : BitVec 16) :
    ((0 : BitVec 8) ++ plen ++ delay).extractLsb' 0 16 = delay ∧
    ((0 : BitVec 8) ++ plen ++ delay).extractLsb' 16 8 = plen := by
  refine ⟨?_, ?_⟩
  · rw [BitVec.extractLsb'_append_eq_of_add_le (by omega), BitVec.extractLsb'_eq_self]
  · rw [BitVec.extractLsb'_append_eq_of_le (by omega), BitVec.extractLsb'_append_eq_of_add_le (by omega)]
    exact BitVec.extractLsb'_eq_self

/-- The encoded word of an ECHO_START decodes to it where its operands fit their fields (R90). -/
theorem decode_encode_echoStart (lp ld : Bool) {delay plen : Nat} (hdelay : delay < 2 ^ 16) (hplen : plen < 2 ^ 8) :
    decode (encode (.echoStart lp ld delay plen)) = .ok (.echoStart lp ld delay plen) := by
  obtain ⟨hlp, hld⟩ := flags_of_sub lp ld
  obtain ⟨hlow, hhigh⟩ := operands_of_arg (BitVec.ofNat 8 plen) (BitVec.ofNat 16 delay)
  simp only [encode, decode, opField_cmdWord, subField_cmdWord, argField_cmdWord, hlp, hld, hlow, hhigh,
    toNat_operand hdelay, toNat_operand hplen]
  rfl

end Sys2Proof

namespace Sys2Proof.Proofs

/-- Settles O1, by the command: its OP selects it, and each operand is read back from the field that holds it. -/
theorem decodeOfEncode : Obligations.DecodeOfEncode := by
  intro i hwf
  cases i
  case standby | sleep | hardwareReset | disconnect | getRssi | getVersion | echoStop => rfl
  case echoStart lp ld delay plen =>
    simp only [Instr.wellFormed, Bool.and_eq_true, decide_eq_true_eq] at hwf
    exact decode_encode_echoStart lp ld hwf.1 hwf.2
  case subscribe id' | unsubscribe id' =>
    have hid : id' < 2 ^ 3 := by simpa [Instr.wellFormed] using hwf
    simp only [encode, decode, opField_cmdWord, subField_cmdWord, subscriber_of_sub, toNat_operand hid]
    rfl
  case begin n | setFrequency n | setSf n | setBw n | setCr n | setTxPower n | setSyncWord n | transmit n
      | receiveMode n =>
    have hn : n < 2 ^ 32 := by simpa [Instr.wellFormed] using hwf
    simp only [encode, decode, opField_cmdWord, argField_cmdWord, toNat_operand hn]
    rfl

/-- Settles O3, clause by clause: OP selects the command, and the fields it uses make its operands. -/
theorem decodeReadsOnlyUsedFields : Obligations.DecodeReadsOnlyUsedFields := fun _ _ hop =>
  ⟨fun _ h => Machine.opcode_of_decode h, decode_isCommand_iff, fun hhi => decode_of_arg hhi hop,
    fun hlo hhi => decode_of_noOperand hlo hhi hop, fun hsub => decode_of_subscriber hsub hop,
    fun h => decode_of_echoStart h hop, fun hlo => decode_of_high hlo hop⟩

/-- Settles O2, by running the decoder on each word. -/
theorem knownWordsDecode : Obligations.KnownWordsDecode := by
  unfold Obligations.KnownWordsDecode
  decide

end Sys2Proof.Proofs

end

/-! ### The answers of the commands -/

section

namespace Sys2Proof.Machine

open Sys2Proof.Safety

/-- A host command has room for its reply exactly where RSPQ has (R221). -/
theorem canReply_ofHost {s : State} (ho : s.eng.origin = .host) :
    canReply s = decide (s.rspq.length < s.cfg.rspqDepth) := by
  simp only [canReply, ho]

/-! #### The opcode and the status of a Reply -/

/-- An action's outcome, where it ends command `i`: a Reply has the command's OP and a status that R224 allows it, and
a transfer fails only where R224 allows IO_ERROR. -/
def Flow.Signed (i : Instr) : Flow → Prop
  | .step _ => True
  | .goto _ _ => True
  | .hold => True
  | .done t => ∃ st v u, statusAllowed i st = true ∧ t = respond i.opcode st v u
  | .ioErr _ => statusAllowed i .ioError = true
  | .fault _ => True

/-- An action of command `i` answers for nothing but the command, with the statuses that R224 allows it. -/
def Signs (i : Instr) (a : Act) : Prop := ∀ s, (a s).Signed i

section
variable {i : Instr}

theorem signs_ite {c : State → Prop} {inst : DecidablePred c} {a b : Act} (ha : Signs i a) (hb : Signs i b) :
    Signs i (fun s => if c s then a s else b s) := by
  intro s
  beta_reduce
  split
  · exact ha s
  · exact hb s

theorem signs_step (f : State → State) : Signs i (fun s => .step (f s)) := fun _ => trivial

theorem signs_goto (k : Nat) (f : State → State) : Signs i (fun s => .goto k (f s)) := fun _ => trivial

theorem signs_hold : Signs i (fun _ => .hold) := fun _ => trivial

theorem signs_reply {st : Status} (hst : statusAllowed i st = true) (v : State → Half) (upd : State → State) :
    Signs i (fun s => replyWith i.opcode st (v s) upd s) :=
  signs_ite (fun s => ⟨st, v s, upd s, hst, rfl⟩) signs_hold

theorem signs_replyWith {st : Status} (hst : statusAllowed i st = true) (v : Half) (upd : State → State) :
    Signs i (replyWith i.opcode st v upd) := signs_reply hst (fun _ => v) upd

theorem signs_need (ok : State → Bool) {st : Status} (hst : statusAllowed i st = true) :
    Signs i (need ok i.opcode st) :=
  signs_ite (signs_step id) (signs_replyWith hst 0 id)

theorem signs_setAct (f : State → State) : Signs i (setAct f) := signs_step f

theorem signs_holdAct : Signs i holdAct := signs_ite (signs_step id) signs_hold

/-- A transfer, and what follows it where it does not fail. -/
theorem signs_transfer (hio : statusAllowed i .ioError = true) (f : State → State) {a : Act} (ha : Signs i a) :
    Signs i (fun s => if spiErrNow s then .ioErr (f s) else a s) :=
  signs_ite (fun _ => hio) ha

theorem signs_writeAct (hio : statusAllowed i .ioError = true) (reg : Config.RegMap → ChipAddr)
    (val : State → Byte) (upd : State → State) : Signs i (writeAct reg val upd) :=
  signs_transfer hio _ (signs_step _)

theorem signs_readAct (hio : statusAllowed i .ioError = true) (reg : Config.RegMap → ChipAddr)
    (store : Byte → State → State) : Signs i (readAct reg store) :=
  signs_transfer hio _ (signs_step _)

theorem signs_opModeAct (hio : statusAllowed i .ioError = true) (md : Mode) (upd : State → State) :
    Signs i (opModeAct md upd) :=
  signs_writeAct hio _ _ _

/-! #### The bodies of the setters -/

theorem signs_frfActs (hio : statusAllowed i .ioError = true) (f : Nat) : ∀ a ∈ frfActs f, Signs i a := by
  simp [frfActs, signs_writeAct hio]

theorem signs_sfBody (hio : statusAllowed i .ioError = true) (sf : Nat) : ∀ a ∈ sfBody sf, Signs i a := by
  unfold sfBody
  split <;> simp [signs_writeAct hio, signs_readAct hio, signs_opModeAct hio]

theorem signs_bwBody (hio : statusAllowed i .ioError = true) (k : Nat) : ∀ a ∈ bwBody k, Signs i a := by
  simp [bwBody, signs_writeAct hio, signs_readAct hio, signs_opModeAct hio]

theorem signs_crBody (hio : statusAllowed i .ioError = true) (cr : Nat) : ∀ a ∈ crBody cr, Signs i a := by
  simp [crBody, signs_writeAct hio, signs_readAct hio, signs_opModeAct hio]

theorem signs_powerBody (hio : statusAllowed i .ioError = true) (p : Nat) : ∀ a ∈ powerBody p, Signs i a := by
  simp [powerBody, signs_writeAct hio, signs_opModeAct hio]

theorem signs_syncBody (hio : statusAllowed i .ioError = true) (w : Nat) : ∀ a ∈ syncBody w, Signs i a := by
  simp [syncBody, signs_writeAct hio, signs_opModeAct hio]

theorem signs_applyDefaults (hio : statusAllowed i .ioError = true) : ∀ a ∈ applyDefaults, Signs i a := by
  simp only [applyDefaults, List.forall_mem_append]
  refine ⟨⟨⟨⟨⟨signs_powerBody hio 14, signs_sfBody hio 7⟩, signs_bwBody hio 7⟩, signs_crBody hio 5⟩, ?_⟩,
    signs_syncBody hio 0x34⟩
  simp [signs_writeAct hio, signs_readAct hio]

theorem signs_beginConfig (hio : statusAllowed i .ioError = true) (f : Nat) : ∀ a ∈ beginConfig f, Signs i a := by
  simp only [beginConfig, List.forall_mem_append]
  refine ⟨⟨⟨signs_frfActs hio f, ?_⟩, signs_applyDefaults hio⟩, ?_⟩ <;>
    simp [signs_writeAct hio, signs_readAct hio, signs_opModeAct hio]

end

/-- The statuses of a setter's checks and reply are among those that R224 allows it. -/
theorem statusAllowed_of_shadowOf {i : Instr} {f : RadioCfg → RadioCfg} (h : shadowOf i = some f) :
    statusAllowed i .ok = true ∧ statusAllowed i .notConnected = true ∧ statusAllowed i .invalidParam = true := by
  cases i <;> cases h <;> exact ⟨rfl, rfl, rfl⟩

/-- A setter's program, by its body (R134). -/
theorem signs_setterProg {c : Config.Params} {i : Instr} {body : List Act} {shadow : RadioCfg → RadioCfg}
    (hi : shadowOf i = some shadow) (hb : ∀ a ∈ body, Signs i a) :
    ∀ a ∈ setterProg i.opcode (operandsLegal c i) body shadow, Signs i a := by
  obtain ⟨hok, hconn, hparam⟩ := statusAllowed_of_shadowOf hi
  simp only [setterProg, List.forall_mem_append, List.forall_mem_cons]
  exact ⟨⟨⟨signs_need _ hconn, signs_need _ hparam, nofun⟩, hb⟩, signs_replyWith hok 0 _, nofun⟩

/-! #### The other commands -/

theorem signs_versionAct (f : Nat) : Signs (.begin f) versionAct :=
  signs_ite (signs_step id) (signs_reply (st := .invalidChip) rfl _ _)

theorem signs_begin (c : Config.Params) (f : Nat) : ∀ a ∈ instrProg c (.begin f), Signs (.begin f) a := by
  simp only [instrProg, beginStart, waitActs, List.forall_mem_append, List.forall_mem_cons]
  refine ⟨⟨⟨⟨⟨⟨⟨⟨signs_need _ (st := .resourceBusy) rfl, signs_need _ (st := .invalidParam) rfl, signs_setAct _,
    signs_setAct _, nofun⟩, ?_⟩, signs_setAct _, nofun⟩, ?_⟩, signs_readAct rfl _ _, signs_versionAct f,
    signs_opModeAct rfl _ _, nofun⟩, ?_⟩, signs_beginConfig rfl f⟩, signs_replyWith (st := .ok) rfl 0 _, nofun⟩
  all_goals exact ⟨signs_setAct _, signs_holdAct, nofun⟩

theorem signs_fifoAct (n : Nat) : Signs (.transmit n) (fifoAct n) :=
  signs_transfer rfl _ (signs_ite (signs_goto 5 _) (signs_step _))

theorem signs_txPollAct (n : Nat) : Signs (.transmit n) txPollAct :=
  signs_ite (signs_transfer rfl _ (signs_ite (signs_goto 10 _) (signs_ite (signs_goto 13 _) (signs_goto 9 _))))
    signs_hold

theorem signs_transmit (c : Config.Params) (n : Nat) : ∀ a ∈ instrProg c (.transmit n), Signs (.transmit n) a := by
  have hwrite := signs_writeAct (i := .transmit n) rfl
  have hmode := signs_opModeAct (i := .transmit n) rfl
  have hreply (st : Status) (k : EventKind) (hst : statusAllowed (.transmit n) st = true) :
      Signs (.transmit n) (txReplyAct st k) := signs_replyWith hst 0 (fun s => emit (txEvent k st (fromEcho s)) s)
  simp only [instrProg, transmitProg, List.forall_mem_cons]
  exact ⟨signs_need _ (st := .notConnected) rfl, signs_need _ (st := .invalidParam) rfl, hmode _ _, hwrite _ _ _,
    signs_fifoAct n, hwrite _ _ _, hwrite _ _ _, hmode _ _, signs_txPollAct n, hwrite _ _ _, hmode _ _,
    hreply .ok _ rfl, hmode _ _, hreply .timeout _ rfl, nofun⟩

theorem signs_armAct (t t' : Nat) : Signs (.receiveMode t) (armAct t') := by
  unfold armAct
  split <;> exact signs_opModeAct rfl _ _

theorem signs_receiveMode (c : Config.Params) (t : Nat) :
    ∀ a ∈ instrProg c (.receiveMode t), Signs (.receiveMode t) a := by
  have hwrite := signs_writeAct (i := .receiveMode t) rfl
  simp only [instrProg, List.forall_mem_cons]
  exact ⟨signs_need _ (st := .notConnected) rfl, signs_need _ (st := .invalidParam) rfl, signs_opModeAct rfl _ _,
    hwrite _ _ _, hwrite _ _ _, hwrite _ _ _, signs_armAct t t, signs_replyWith (st := .ok) rfl 0 _, nofun⟩

theorem signs_hardwareReset (c : Config.Params) : ∀ a ∈ instrProg c .hardwareReset, Signs .hardwareReset a := by
  simp only [instrProg, waitActs, List.forall_mem_append, List.forall_mem_cons]
  refine ⟨⟨⟨⟨⟨signs_need _ (st := .notConnected) rfl, signs_setAct _, nofun⟩, ?_⟩, signs_setAct _, nofun⟩, ?_⟩,
    signs_replyWith (st := .ok) rfl 0 _, nofun⟩
  all_goals exact ⟨signs_setAct _, signs_holdAct, nofun⟩

/-- A command of one transfer, between the connection check and the reply. -/
theorem signs_checkedAct {i : Instr} (hok : statusAllowed i .ok = true) (hconn : statusAllowed i .notConnected = true)
    {a : Act} (ha : Signs i a) (v : State → Half) :
    ∀ b ∈ [needConnected i.opcode, a, fun s => replyWith i.opcode .ok (v s) id s], Signs i b := by
  simp only [List.forall_mem_cons]
  exact ⟨signs_need _ hconn, ha, signs_reply hok v id, nofun⟩

/-- A command of one step. -/
theorem signs_oneReply {i : Instr} (hok : statusAllowed i .ok = true) (upd : State → State) :
    ∀ a ∈ [replyWith i.opcode .ok 0 upd], Signs i a :=
  List.forall_mem_singleton.mpr (signs_replyWith hok 0 upd)

theorem signs_echoStart (c : Config.Params) (lp ld : Bool) (delay plen : Nat) :
    ∀ a ∈ instrProg c (.echoStart lp ld delay plen), Signs (.echoStart lp ld delay plen) a := by
  have hstart : Signs (.echoStart lp ld delay plen) echoStartAct :=
    signs_ite (fun _ => trivial) (signs_replyWith (st := .ok) rfl 0 _)
  simp only [instrProg, echoStartProg, List.forall_mem_cons]
  exact ⟨signs_need _ (st := .alreadyRunning) rfl, signs_need _ (st := .invalidParam) rfl,
    signs_ite (signs_step _) (signs_goto 5 id), signs_ite (signs_goto 4 _) (signs_step _), signs_setAct _,
    signs_setAct _, hstart, nofun⟩

/-- Every action of a command answers for the command, with the statuses that R224 allows it. -/
theorem signs_instrProg (c : Config.Params) (i : Instr) : ∀ a ∈ instrProg c i, Signs i a := by
  cases i with
  | begin f => exact signs_begin c f
  | setFrequency f =>
    exact signs_setterProg (i := .setFrequency f) rfl
      (List.forall_mem_cons.mpr ⟨signs_opModeAct rfl _ _, signs_frfActs rfl f⟩)
  | setSf sf => exact signs_setterProg (i := .setSf sf) rfl (signs_sfBody rfl sf)
  | setBw k => exact signs_setterProg (i := .setBw k) rfl (signs_bwBody rfl k)
  | setCr k => exact signs_setterProg (i := .setCr k) rfl (signs_crBody rfl k)
  | setTxPower p => exact signs_setterProg (i := .setTxPower p) rfl (signs_powerBody rfl p)
  | setSyncWord w => exact signs_setterProg (i := .setSyncWord w) rfl (signs_syncBody rfl w)
  | transmit n => exact signs_transmit c n
  | receiveMode t => exact signs_receiveMode c t
  | standby => exact signs_checkedAct (i := .standby) rfl rfl (signs_opModeAct rfl _ _) fun _ => 0
  | sleep => exact signs_checkedAct (i := .sleep) rfl rfl (signs_opModeAct rfl _ _) fun _ => 0
  | hardwareReset => exact signs_hardwareReset c
  | disconnect => exact signs_oneReply (i := .disconnect) rfl _
  | getRssi => exact signs_checkedAct (i := .getRssi) rfl rfl (signs_readAct rfl _ _) _
  | getVersion => exact signs_checkedAct (i := .getVersion) rfl rfl (signs_readAct rfl _ _) _
  | subscribe id' => exact signs_oneReply (i := .subscribe id') rfl _
  | unsubscribe id' => exact signs_oneReply (i := .unsubscribe id') rfl _
  | echoStart lp ld delay plen => exact signs_echoStart c lp ld delay plen
  | echoStop => exact signs_oneReply (i := .echoStop) rfl _

theorem signs_of_stepAt {c : Config.Params} {i : Instr} {k : Nat} {a : Act} (ha : stepAt (instrProg c i) k = some a) :
    Signs i a := by
  cases k with
  | zero => cases ha
  | succ k => exact signs_instrProg c i a (List.mem_of_getElem? ha)

/-! #### Where a turn on a command stops -/

/-- What a command that has not answered leaves alone, from `s` to `t`. -/
structure Unanswered (s t : State) : Prop where
  cfg : t.cfg = s.cfg
  origin : t.eng.origin = s.eng.origin
  rspq : t.rspq = s.rspq
  rpl : t.rpl = s.rpl

/-- Command `i` has answered once, from `s` to `t`: the host by a response in RSPQ, which had room for it, and an echo
call by RPL, each with a status that R224 allows (R84, R203, R221). -/
structure Answered (i : Instr) (s t : State) : Prop where
  host : s.eng.origin = .host → s.rspq.length < s.cfg.rspqDepth ∧
    ∃ r, t.rspq = s.rspq ++ [r] ∧ r.op = i.opcode ∧ statusAllowed i r.status = true
  call : ∀ sess, s.eng.origin = .echo sess →
    t.rspq = s.rspq ∧ t.rpl.valid = true ∧ t.rpl.session = sess ∧ statusAllowed i t.rpl.status = true

/-- Where a turn on command `i`, executed as message `m`, can stop. -/
inductive Stops (i : Instr) (m : Msg) (s t : State) : Prop
  | runs (k : Nat) (hpc : t.eng.pc = .run m k) (h : Unanswered s t)
  /-- The IoError step waits for room in RSPQ (R221, log 10). -/
  | waits (hpc : t.eng.pc = .failed m) (ho : s.eng.origin = .host) (h : Unanswered s t)
  | ends (hpc : t.eng.pc = .idle) (h : Answered i s t)

theorem Unanswered.trans {s t u : State} (h : Unanswered s t) (h' : Unanswered t u) : Unanswered s u where
  cfg := h'.cfg.trans h.cfg
  origin := h'.origin.trans h.origin
  rspq := h'.rspq.trans h.rspq
  rpl := h'.rpl.trans h.rpl

theorem unanswered_setPc (p : Pc) (s : State) : Unanswered s (setPc p s) := ⟨rfl, rfl, rfl, rfl⟩

theorem Unanswered.of_setPc {p : Pc} {s t : State} (h : Unanswered s (setPc p t)) : Unanswered s t :=
  ⟨h.cfg, h.origin, h.rspq, h.rpl⟩

theorem unanswered_dropLink (s : State) : Unanswered s (dropLink s) where
  cfg := (regularUpd_dropLink.frame s).cfg
  origin := (regularUpd_dropLink.frame s).origin
  rspq := by simp [dropLink]
  rpl := by simp [dropLink]

/-- A Reply of the command, where there was room for it and RSPQ had no other yet (R221). -/
theorem answered_of_respond {i : Instr} {s u t : State} {st : Status} {v : Half} (hroom : canReply s = true)
    (hst : statusAllowed i st = true) (horigin : u.eng.origin = s.eng.origin) (hkept : u.rspq = s.rspq)
    (hrspq : t.rspq = (respond i.opcode st v u).rspq) (hrpl : t.rpl = (respond i.opcode st v u).rpl) :
    Answered i s t where
  host ho := by
    rw [canReply_ofHost ho, decide_eq_true_eq] at hroom
    rw [respond_toHost _ _ _ u (horigin.trans ho)] at hrspq
    exact ⟨hroom, ⟨st, i.opcode, v⟩, hrspq.trans (congrArg (· ++ _) hkept), rfl, hst⟩
  call sess ho := by
    rw [respond_toCall _ _ _ u sess (horigin.trans ho)] at hrspq hrpl
    rw [hrpl]
    exact ⟨hrspq.trans hkept, rfl, rfl, hst⟩

/-- An action that does not end its command answers nothing. -/
theorem CmdStep.unanswered {c : Config.Params} {i : Instr} {m : Msg} {k : Nat} {s t : State}
    (h : CmdStep c i m k s t) (hbusy : t.eng.pc ≠ .idle) : Unanswered s t := by
  cases h with
  | replies => exact absurd rfl hbusy
  | _ => exact ⟨rfl, rfl, rfl, rfl⟩

/-- An action that ends its command makes one Reply, for which there was room. -/
theorem CmdStep.reply {c : Config.Params} {i : Instr} {m : Msg} {k : Nat} {s t : State}
    (h : CmdStep c i m k s t) (hidle : t.eng.pc = .idle) :
    canReply s = true ∧ ∃ op st v u, Unanswered s u ∧ t = setPc .idle (respond op st v u) := by
  cases h with
  | replies op st v u hroom hu =>
    obtain ⟨hframe, hrspq, hrpl⟩ := hu.framed
    exact ⟨hroom, op, st, v, u, ⟨hframe.cfg, hframe.origin, hrspq, hrpl⟩, rfl⟩
  | _ => cases hidle

/-- Two Replies to the same origin that leave the same RSPQ were made with the same RSPQ. -/
theorem rspq_eq_of_respond {op op' : Byte} {st st' : Status} {v v' : Half} {s t : State}
    (ho : s.eng.origin = t.eng.origin) (h : (respond op st v s).rspq = (respond op' st' v' t).rspq) :
    s.rspq = t.rspq := by
  rcases ht : t.eng.origin with _ | sess
  · rw [respond_toHost _ _ _ s (ho.trans ht), respond_toHost _ _ _ t ht] at h
    exact (List.append_inj' h rfl).1
  · rwa [respond_toCall _ _ _ s sess (ho.trans ht), respond_toCall _ _ _ t sess ht] at h

/-- The last action of a command answers for it (R84, R203, R224). -/
theorem answered_of_done (m : Msg) {i : Instr} {k : Nat} {a : Act} {s t : State}
    (ha : stepAt (instrProg s.cfg i) k = some a) (h : a s = .done t) : Answered i s (setPc .idle t) := by
  have hexit : (a s).exit m k = some (setPc .idle t) := by rw [h]; rfl
  obtain ⟨hroom, op, st', v', w, hw, ht⟩ := (cmdStep_of_exit ha hexit).reply rfl
  obtain ⟨st, v, u, hst, rfl⟩ : (Flow.done t).Signed i := h ▸ signs_of_stepAt ha s
  have horigin : u.eng.origin = w.eng.origin := by simpa using congrArg (·.eng.origin) ht
  have hrspq := rspq_eq_of_respond horigin (congrArg (·.rspq) ht)
  exact answered_of_respond hroom hst (horigin.trans hw.origin) (hrspq.trans hw.rspq) rfl rfl

/-- The IoError step of a command answers IO_ERROR for it (R226). -/
theorem answered_ioErrorEffect {i : Instr} {s : State} (hio : statusAllowed i .ioError = true)
    (hroom : canReply s = true) : Answered i s (ioErrorEffect (some i.opcode) s) := by
  have hdrop := unanswered_dropLink s
  rw [ioErrorEffect_eq]
  rcases ioErrorBody_cases (some i.opcode) s with ⟨hop, -⟩ | ⟨o, hop, hb⟩
  · cases hop
  · obtain rfl := Option.some.inj hop
    refine answered_of_respond hroom hio hdrop.origin hdrop.rspq (v := 0) ?_ ?_ <;>
      rcases hb with ⟨-, hb⟩ | ⟨-, hb⟩ <;> simp [hb]

/-- What answers after a stretch that answered nothing answers from its beginning. -/
theorem Unanswered.answered {i : Instr} {s u t : State} (hu : Unanswered s u) (h : Answered i u t) :
    Answered i s t where
  host := by simpa only [hu.origin, hu.rspq, hu.cfg] using h.host
  call := by simpa only [hu.origin, hu.rspq] using h.call

/-- A failed transfer of a command: the IoError step answers, or waits for room for its response (R221, R226). -/
theorem stops_ioErrorStep {i : Instr} {m : Msg} {s u : State} (hu : Unanswered s u)
    (hio : statusAllowed i .ioError = true) : Stops i m s (ioErrorStep (some i.opcode) m u) := by
  rcases ioErrorStep_cases (some i.opcode) m u with ⟨hready, he⟩ | ⟨hwait, he⟩ <;> rw [he]
  · exact .ends (by rw [ioErrorEffect_eq]; rfl) (hu.answered (answered_ioErrorEffect hio hready))
  · refine .waits rfl ?_ (hu.trans (unanswered_setPc _ u))
    have hfull : canReply u = false := hwait
    rw [← hu.origin]
    rcases ho : u.eng.origin with _ | sess
    · rfl
    · simp [canReply, ho] at hfull

/-- A turn on a command either answers nothing, or ends the command with one answer. -/
theorem exec_stops {i : Instr} {m : Msg} {k : Nat} {s t : State} (hpc : s.eng.pc = .run m k)
    (h : exec i s = .next t) : Stops i m s t := by
  rw [exec_eq_runMessage, runMessage_run hpc] at h
  have hgoes {j : Nat} {a : Act} {u v : State} (ha : stepAt (instrProg s.cfg i) j = some a) (hu : Unanswered s u)
      {p : Pc} (hp : p ≠ .idle) (hv : (a u).exit m j = some (setPc p v)) : Unanswered s v := by
    have hstep : CmdStep u.cfg i m j u (setPc p v) := cmdStep_of_exit (hu.cfg ▸ ha) hv
    exact hu.trans (.of_setPc (hstep.unanswered hp))
  refine runActs_induct (fun _ u => Unanswered s u) (Stops i m s) ?_ ?_ ?_ ?_ ?_ s.env.quantum k s t
    ⟨rfl, rfl, rfl, rfl⟩ h
  · exact fun j u hu => .runs j rfl (hu.trans (unanswered_setPc _ u))
  · exact fun j a u v ha hu hf => hgoes ha hu (p := .run m (j + 1)) nofun (by rw [hf]; rfl)
  · exact fun j a u l v ha hu hf => hgoes ha hu (p := .run m l) nofun (by rw [hf]; rfl)
  · exact fun j a u v ha hu hf => .ends rfl (hu.answered (answered_of_done m (hu.cfg.symm ▸ ha) hf))
  · intro j a u v ha hu hf
    have hio : (Flow.ioErr v).Signed i := hf ▸ signs_of_stepAt ha u
    exact stops_ioErrorStep (hgoes ha hu (p := .failed m) nofun (by rw [hf]; rfl)) hio

end Sys2Proof.Machine

namespace Sys2Proof.Proofs

open Sys2Proof.Machine Sys2Proof.Safety

/-- Settles O9, by where the turn on the command stops. -/
theorem commandAnswersExactlyOnce : Obligations.CommandAnswersExactlyOnce := by
  intro i m k s t hpc h
  cases exec_stops hpc h with
  | runs j hrun hkept =>
    exact ⟨fun _ => .inl ⟨by simp [hrun], hkept.rspq⟩, fun _ _ => ⟨hkept.rspq, .inl ⟨m, j, hrun, hkept.rpl⟩⟩⟩
  | waits hfailed ho hkept =>
    exact ⟨fun _ => .inl ⟨by simp [hfailed], hkept.rspq⟩, fun sess hsess => absurd (ho.symm.trans hsess) nofun⟩
  | ends hidle hans =>
    refine ⟨fun ho => .inr ⟨hidle, hans.host ho⟩, fun sess ho => ?_⟩
    obtain ⟨hrspq, hrpl⟩ := hans.call sess ho
    exact ⟨hrspq, .inr ⟨hidle, hrpl⟩⟩

/-- Settles O7: a reserved opcode's one action is its Reply, which completes or holds. -/
theorem reservedOpcodeAnswersInvalidParam : Obligations.ReservedOpcodeAnswersInvalidParam := by
  intro w s hop hpc ho hquant
  obtain ⟨n, hn⟩ := Nat.exists_eq_add_of_le' hquant
  have hrun : runMsg (.hcmd w) s = runMessage (some (opField w)) [replyWith (opField w) .invalidParam 0 id] s := by
    simp only [runMsg, decode_of_reserved hop, reservedCommand]
  have hroom := canReply_ofHost ho
  rw [hrun, runMessage_run hpc, hn]
  split
  · rename_i hlt
    rw [runActs_reply rfl (hroom.trans (decide_eq_true hlt)), answered, id, respond_toHost _ _ _ s ho]
    rfl
  · rename_i hfull
    rw [runActs_reply_holds rfl (hroom.trans (decide_eq_false hfull)), ← hpc]
    rfl

end Sys2Proof.Proofs
end

/-! ### The engine takes a message -/

section

namespace Sys2Proof.Machine

open Sys2Proof.Safety

/-- An idle engine's turn takes the head of INQ and goes on at the message's step 1 (R115). -/
theorem engineTurn_takes {s : State} {m : Msg} {rest : List Msg} (hpc : s.eng.pc = .idle) (hq : s.inq = m :: rest) :
    engineTurn s = runMsg m (take m rest s) := by
  have hcur : currentMsg s = some m := by simp only [currentMsg, hpc, hq, List.head?_cons]
  have hquant : (take m rest s).env.quantum = s.env.quantum := by cases m <;> rfl
  rw [runMsg_eq_runMessage m (take m rest s), runMessage_run (take_eng_pc m rest s), take_cfg, hquant]
  simp only [engineTurn, hcur, runMsg_eq_runMessage, runMessage, hpc, hq]

end Sys2Proof.Machine

namespace Sys2Proof.Proofs

open Sys2Proof.Machine Sys2Proof.Safety

/-- Settles O5: an empty INQ leaves nothing to do, and a head is taken by its kind. -/
theorem engineTakesHeadOfInq : Obligations.EngineTakesHeadOfInq := by
  intro s hpc
  refine ⟨fun hq => ?_, fun w rest hq => engineTurn_takes hpc hq, fun op arg sess rest hq => engineTurn_takes hpc hq,
    fun rest hq => engineTurn_takes hpc hq, fun rest hq => engineTurn_takes hpc hq⟩
  have hcur : currentMsg s = none := by simp only [currentMsg, hpc, hq, List.head?_nil]
  simp only [engineTurn, hcur]

end Sys2Proof.Proofs

end

/-! ### The time base and the DIO0 detector -/

section

namespace Sys2Proof.Machine

/-- A countdown goes down by 1 and stays at 0 (R110). -/
theorem toNat_countDown {w : Nat} (c : BitVec w) : (countDown c).toNat = c.toNat - 1 := by
  unfold countDown
  split
  · simp [*]
  · rename_i hc
    have hpos : 0 < c.toNat := Nat.pos_of_ne_zero fun h => hc (BitVec.eq_of_toNat_eq (by simpa using h))
    have hw : 1 < 2 ^ w := by have := c.isLt; omega
    rw [BitVec.toNat_sub_of_le] <;> simp [BitVec.le_def, Nat.mod_eq_of_lt hw]
    omega

/-- A countdown expires in the tick that finds it at 1 (R110). -/
theorem expires_iff {w : Nat} (c : BitVec (w + 1)) : expires c = true ↔ c.toNat = 1 := by
  rw [expires, beq_iff_eq, ← BitVec.toNat_inj]
  simp

/-- The TX wait's count goes up to 8191 at most (R111). -/
theorem toNat_nextTicks (t : BitVec 13) : (nextTicks t).toNat = min (t.toNat + 1) 8191 := by
  unfold nextTicks
  split <;> bv_omega

/-- The TX wait's registers after a tick (R111). -/
theorem tickTx_of_pending {s : State} (h : s.tx.pending = true) :
    (tickTx s).tx = { s.tx with
      ticks := nextTicks s.tx.ticks
      pollReq := s.tx.pollReq || decide ((nextTicks s.tx.ticks).toNat % 10 = 0) } := by
  simp only [tickTx, h, if_true]

/-- Outside the TX wait a tick leaves the TX registers (R111). -/
theorem tickTx_of_not_pending {s : State} (h : s.tx.pending = false) : tickTx s = s := by
  simp [tickTx, h]

/-- With the handles open, a detected edge is routed (R107). -/
theorem edgeTurn_of_open {s : State} (h : s.eng.handles = true) : edgeTurn s = routeEdge s := if_pos h

/-- With the handles closed, no edge is detected (R107). -/
theorem edgeTurn_of_closed {s : State} (h : s.eng.handles = false) : edgeTurn s = s := by
  simp [edgeTurn, h]

/-- One rising edge of `clk_i`: the shift, and a turn of `env edge` where the sample has risen (R107). -/
theorem clkTurn_eq_edgeTurn (b : Bool) (s : State) :
    clkTurn b s = if s.dio.sync0 = true ∧ s.dio.prev = false then edgeTurn (shiftDio b s) else shiftDio b s := by
  have hopen : (shiftDio b s).eng.handles = s.eng.handles := rfl
  rw [clkTurn_eq, edgeTurn, hopen]
  cases s.dio.sync0 <;> cases s.dio.prev <;> simp

end Sys2Proof.Machine

namespace Sys2Proof.Proofs

open Sys2Proof.Machine Sys2Proof.Safety

/-- Settles O36, by the parts of a tick: the countdowns, the RX-single timer's expiry, and the TX wait. -/
theorem tickCountsDown : Obligations.TickCountsDown := by
  intro s t
  have ht : t = _ := timerTick_eq s
  clear_value t
  subst ht
  refine ⟨?_, toNat_countDown _, ?_, toNat_countDown _, toNat_countDown _, ?_, ?_, fun hone => ?_, fun hone => ?_,
    fun hp => ?_, fun hp => by rw [tickTx_of_not_pending hp]⟩
  · cases hp : s.tx.pending
    · simp only [tickTx_of_not_pending hp]; rfl
    · simp only [tickTx_of_pending hp]; rfl
  · rcases tickRxSingle_cases s with ⟨-, -, hrxs⟩ | ⟨-, -, hrxs⟩ <;> simp only [hrxs, toNat_countDown]
  · simp only [tickEcho, Bool.or_eq_true, expires_iff]
  · simp only [tickEcho, Bool.or_eq_true, expires_iff]
  · rcases tickRxSingle_cases s with ⟨hexp, -, -⟩ | ⟨-, hinq, hrxs⟩
    · exact absurd ((expires_iff _).mpr hone) (by simp [hexp])
    · exact ⟨by rw [hrxs], by rw [hrxs], hinq⟩
  · rcases tickRxSingle_cases s with ⟨-, hinq, hrxs⟩ | ⟨hexp, -, -⟩
    · exact ⟨by rw [hrxs], by rw [hrxs], hinq⟩
    · exact absurd ((expires_iff _).mp hexp) hone
  · simp only [tickTx_of_pending hp, toNat_nextTicks, Bool.or_eq_true, decide_eq_true_eq, and_self]

/-- Settles O37, by where the edge goes, and by what the detector finds. -/
theorem edgeIsRouted : Obligations.EdgeIsRouted := by
  refine ⟨fun s => ⟨edgeTurn_of_closed, fun hopen hp => ?_, fun hopen hp hq => ?_, fun hopen hp hq => ?_⟩,
    clkTurn_eq_edgeTurn⟩ <;>
    simp [edgeTurn_of_open hopen, routeEdge, *]

end Sys2Proof.Proofs

end

/-! ### The reset pulse, RECEIVE_MODE, DISCONNECT, and BEGIN up to the chip's version -/

section

namespace Sys2Proof.Machine

open Sys2Proof.Safety

/-- A level of `reset_n_o`, on the pin and in the bus history (R106). -/
theorem drive_reset (b : Bool) (s : State) :
    drive .reset b s = { s with
      pins := { s.pins with rst := .driven b }
      bus := s.bus ++ [.pin .reset (.driven b)] } := rfl

/-- Transfers and x[W_V] do not depend on each other. -/
theorem afterBus_setV (v : Byte) (s : State) (l : List BusEvent) :
    afterBus (setV v s) l = setV v (afterBus s l) := rfl

/-- OpenHandles, field by field (R105). -/
theorem openHandles_spec (s : State) :
    openHandles s = { s with
      pins := { cs := .driven true, rst := .driven false, sclk := .driven false, mosi := .driven false }
      bus := s.bus ++ [.pin .sclk (.driven false), .pin .mosi (.driven false), .pin .reset (.driven false),
        .pin .cs (.driven true)]
      dio := { s.dio with prev := s.dio.sync1 }
      eng := { s.eng with handles := true } } := by
  simp [openHandles, drive, record, setPin]

/-- CloseHandles, field by field, the pins in the order of their release (R105). -/
theorem closeHandles_spec (s : State) :
    closeHandles s = { s with
      pins := { cs := .released, rst := .released, sclk := .released, mosi := .released }
      bus := s.bus ++ [.pin .cs .released, .pin .reset .released, .pin .mosi .released, .pin .sclk .released]
      eng := { s.eng with handles := false } } := by
  simp [closeHandles, release, record, setPin]

/-- What DISCONNECT leaves, besides its reply (R147). -/
theorem disconnected_eq (s : State) :
    disconnected s =
      let down : State :=
        { s with
          eng := { s.eng with handles := false, connected := false, mode := .unknown }
          rxs := { s.rxs with cnt := 0, fired := false } }
      if s.eng.handles then
        { down with
          pins := { cs := .released, rst := .released, sclk := .released, mosi := .released }
          bus := s.bus ++ [.pin .cs .released, .pin .reset .released, .pin .mosi .released, .pin .sclk .released] }
      else down := by
  cases h : s.eng.handles
  · have hsame : s.eng = { s.eng with handles := false } := by rw [← h]
    simp only [disconnected, closeIfOpen, h, Bool.false_eq_true, if_false, cancelRxSingle]
  · simp only [disconnected, closeIfOpen, h, if_true, closeHandles_spec, cancelRxSingle]

section
variable {op : Option Byte} {prog : List Act} {m : Msg} {n k : Nat} {s : State}

/-- Past the Standby write: the arming write of RECEIVE_MODE, where it does not fail (R140, R143). -/
theorem runActs_opMode_after {md md' : Mode} {upd : State → State} {l : List BusEvent} {j : Nat}
    (ha : stepAt prog k = some (opModeAct md' upd)) (herr : noSpiErr s j) (hl : l.countP isTransfer < j) :
    runActs op prog m (n + 1) k (setMode md (afterBus s l)) =
      runActs op prog m n (k + 1)
        (upd (setMode md' (setMode md (afterBus s (l ++ [.write s.cfg.regmap.opMode (opModeByte md')]))))) := by
  have hnow : spiErrNow (setMode md (afterBus s l)) = false := spiErrNow_later herr _ hl rfl rfl rfl
  rw [runActs_opMode ha hnow, afterBus_setMode, afterBus_afterBus]
  rfl

/-- A stretch that ends by loading a wait stops in its hold (R110). -/
theorem runActs_loadWait (ha : stepAt prog k = some (setAct (loadWait 10))) (hh : stepAt prog (k + 1) = some holdAct) :
    runActs op prog m (n + 1) k s = .next (setPc (.run m (k + 1)) (loadWait 10 s)) := by
  have hrun : (loadWait 10 s).eng.waitCnt ≠ 0 := by
    rw [loadWait_eng_waitCnt]
    decide
  rw [runActs_set ha, runActs_waiting hh hrun]

/-- The middle of the reset pulse: the wait over, a level of `reset_n_o`, and the next wait (R120, R146). -/
theorem runActs_pulse {b : Bool} (hprev : stepAt prog k = some holdAct) (hw : s.eng.waitCnt = 0)
    (hd : stepAt prog (k + 1) = some (setAct (drive .reset b)))
    (hl : stepAt prog (k + 2) = some (setAct (loadWait 10))) (hh : stepAt prog (k + 3) = some holdAct) :
    runActs op prog m (n + 3) k s = .next
      { s with
        pins := { s.pins with rst := .driven b }
        bus := s.bus ++ [.pin .reset (.driven b)]
        eng := { s.eng with pc := .run m (k + 3), waitCnt := 11 } } := by
  rw [runActs_waited hprev hw, runActs_set hd, runActs_loadWait hl hh]
  rfl

/-- The version check passes on the chip's version (R121). -/
theorem runActs_version (ha : stepAt prog k = some versionAct) (hv : s.work.v = 0x12) :
    runActs op prog m (n + 1) k s = runActs op prog m n (k + 1) s :=
  runActs_step ha (if_pos hv)

/-- The version check refuses another chip: the handles are closed, the mode is unknown, and the answer has the
version read (R121, R122). -/
theorem runActs_version_refuses (ha : stepAt prog k = some versionAct) (hv : s.work.v ≠ 0x12)
    (hr : canReply s = true) :
    runActs op prog m (n + 1) k s = .next (answered 0x01 .invalidChip (BitVec.ofNat 16 s.work.v.toNat)
      { closeHandles s with eng := { (closeHandles s).eng with mode := .unknown } }) :=
  runActs_done ha (by simp only [versionAct, if_neg hv, replyWith_spec, hr, if_true, BitVec.ofNat_toNat])

/-- A turn in a wait that runs changes nothing (R110). -/
theorem runMessage_waiting (hpc : s.eng.pc = .run m k) (ha : stepAt prog k = some holdAct) (hw : s.eng.waitCnt ≠ 0) :
    runMessage op prog s = .next s := by
  rw [runMessage_run hpc, runActs_waiting ha hw, ← hpc]
  rfl

end

end Sys2Proof.Machine

namespace Sys2Proof.Proofs

open Sys2Proof.Machine Sys2Proof.Safety

/-- Settles O18: the checks and the four writes, then the arming write by the timeout, and the reply. -/
theorem receiveModeCompletes : Obligations.ReceiveModeCompletes := by
  intro t m s hpc hconn hroom herr hquant ht r first
  obtain ⟨n, hn⟩ := Nat.exists_eq_add_of_le' hquant
  have hlegal : operandsLegal s.cfg (.receiveMode t) = true := decide_eq_true ht
  rw [exec_eq_runMessage, runMessage_run hpc, hn, instrProg, runActs_need rfl hconn, runActs_need rfl hlegal,
    runActs_opMode rfl (noSpiErr_now herr (by decide)), id, runActs_write_after rfl herr (by simp),
    runActs_write_after rfl herr (by simp [List.countP_cons]),
    runActs_write_after rfl herr (by simp [List.countP_cons])]
  by_cases hzero : t = 0
  · have harm : armAct t = opModeAct .rxCont := if_pos hzero
    rw [harm, runActs_opMode_after rfl herr (by simp [List.countP_cons]),
      runActs_reply rfl (canReply_later hroom (by simp) (by simp) (by simp)), if_pos hzero]
    rfl
  · have harm : armAct t = opModeAct .rxSingle (loadRxSingle t) := if_neg hzero
    have hreply (l : List BusEvent) :
        canReply (loadRxSingle t (setMode .rxSingle (setMode .standby (afterBus s l)))) = true :=
      canReply_later hroom rfl rfl rfl
    rw [harm, runActs_opMode_after rfl herr (by simp [List.countP_cons]), runActs_reply rfl (hreply _), if_neg hzero]
    rfl

/-- Settles O19: each stretch runs into the next wait, and the last into the reply. -/
theorem hardwareResetCompletes : Obligations.HardwareResetCompletes := by
  intro m s hquant
  obtain ⟨n, hn⟩ := Nat.exists_eq_add_of_le' hquant
  simp only [exec_eq_runMessage]
  refine ⟨fun hpc hconn => ?_, fun hpc hw => ?_, fun hpc hw hroom => ?_, fun k hk hpc hw => ?_⟩
  · rw [runMessage_run hpc, hn, runActs_need rfl hconn, runActs_set rfl, runActs_loadWait rfl rfl]
    rfl
  · rw [runMessage_run hpc, hn, runActs_pulse rfl hw rfl rfl rfl]
  · rw [runMessage_run hpc, hn, runActs_waited rfl hw, runActs_reply rfl hroom]
    rfl
  · rcases hk with rfl | rfl <;> exact runMessage_waiting hpc rfl hw

/-- Settles O20: its one action is the reply, with what it leaves. -/
theorem disconnectCompletes : Obligations.DisconnectCompletes := by
  intro m s hpc hroom hquant down
  obtain ⟨n, hn⟩ := Nat.exists_eq_add_of_le' hquant
  rw [exec_eq_runMessage, runMessage_run hpc, hn, instrProg,
    runActs_reply rfl hroom, disconnected_eq]

/-- Settles O23: each stretch runs into the next wait. -/
theorem beginOpensAndResetsTheChip : Obligations.BeginOpensAndResetsTheChip := by
  intro f m s hquant
  obtain ⟨n, hn⟩ := Nat.exists_eq_add_of_le' hquant
  simp only [exec_eq_runMessage]
  refine ⟨fun hpc hconn hf => ?_, fun hpc hw => ?_, fun hpc hw hv herr => ?_, fun k hk hpc hw => ?_⟩
  · have hfree : (!s.eng.connected) = true := by rw [hconn]; rfl
    rw [runMessage_run hpc, hn, runActs_need rfl hfree, runActs_need rfl hf, runActs_set rfl, runActs_set rfl,
      runActs_loadWait rfl rfl, drive_reset, openHandles_spec]
    simp [loadWait, setPc]
  · rw [runMessage_run hpc, hn, runActs_pulse rfl hw rfl rfl rfl]
  · rw [runMessage_run hpc, hn, runActs_waited rfl hw, runActs_read rfl (noSpiErr_now herr (by decide)) hv,
      runActs_version rfl (by simp),
      runActs_opMode rfl (spiErrNow_later herr 1 (by decide) (by simp) (by simp) (by simp)), runActs_loadWait rfl rfl, afterBus_setV, afterBus_afterBus]
    rfl
  · rcases hk with rfl | rfl | rfl <;> exact runMessage_waiting hpc rfl hw

/-- Settles O25: the version read, then the check's refusal. -/
theorem beginRejectsAnotherChip : Obligations.BeginRejectsAnotherChip := by
  intro f m s hpc hw hv herr hroom hquant
  obtain ⟨n, hn⟩ := Nat.exists_eq_add_of_le' hquant
  rw [exec_eq_runMessage, runMessage_run hpc, hn, runActs_waited rfl hw,
    runActs_read rfl (noSpiErr_now herr (by decide)) (chipAnswer_spec s),
    runActs_version_refuses rfl (by simpa using hv) (canReply_later hroom (by simp) (by simp) (by simp)),
    closeHandles_spec]
  simp [setV, afterBus, List.countP_cons]

end Sys2Proof.Proofs

end

/-! ### A failed transfer ends its message -/

section

namespace Sys2Proof.Machine

open Sys2Proof.Safety

/-! #### Actions on trial: one action, with no failing transfer -/

/-- The state for a trial of one action, whose transfer does not fail (R104, log 3). -/
def trial (s : State) : State := withQuantum 1 (unfailing s)

@[simp] theorem trial_bus (s : State) : (trial s).bus = s.bus := rfl

@[simp] theorem trial_work (s : State) : (trial s).work = s.work := rfl

/-- A value that the trial leaves as it is. -/
def Untried {α : Type} (v : State → α) : Prop := ∀ s, v (trial s) = v s

theorem untried_iff {α : Type} {v : State → α} : Untried v ↔ ∀ s, v (trial s) = v s := .rfl

/-- An action's transfer did not fail, and the state it leaves, if it leaves one, has a property. -/
def Flow.Unfailed (P : State → Prop) : Flow → Prop
  | .step s => P s
  | .goto _ s => P s
  | .hold => True
  | .done s => P s
  | .ioErr _ => False
  | .fault _ => True

theorem Flow.Unfailed.mono {P Q : State → Prop} {f : Flow} (h : f.Unfailed P) (hPQ : ∀ s, P s → Q s) :
    f.Unfailed Q := by
  cases f
  case hold | fault => trivial
  case ioErr => exact h
  all_goals exact hPQ _ h

/-- Where its transfer fails, the action ends the message at it: the transfer known from the trial is in the bus
history, and of the action no more than `pre` has happened (R104, log 26). -/
def FailureEnds (pre : State → State) (a : Act) : Prop :=
  ∀ s e, spiErrNow s = true → isTransfer e = true →
    (a (trial s)).Unfailed fun t => t.bus = s.bus ++ [e] → a s = .ioErr (afterBus (pre s) [e])

/-- A turn of at least one action on a message whose transfer, known from the trial, fails (R104, R226). -/
theorem runActs_failure {op : Option Byte} {prog : List Act} {m : Msg} {pre : State → State} {k n : Nat}
    {s u : State} {e : BusEvent} (ha : ∀ a, stepAt prog k = some a → FailureEnds pre a) (hfail : spiErrNow s = true)
    (he : isTransfer e = true) (hu : runActs op prog m 1 k (trial s) = .next u) (hbus : u.bus = s.bus ++ [e]) :
    runActs op prog m (n + 1) k s = .next (ioErrorStep op m (afterBus (pre s) [e])) := by
  rcases hk : stepAt prog k with _ | a
  · simp [runActs, hk] at hu
  have hends := ha a hk s e hfail he
  have hexit {t : State} {p : Pc} (htu : setPc p t = u) : t.bus = s.bus ++ [e] := by rw [← hbus, ← htu, setPc_bus]
  rcases htry : a (trial s) with t | ⟨j, t⟩ | _ | t | t | r <;> rw [htry] at hends
  case step =>
    rw [runActs_step hk htry] at hu
    exact runActs_ioErr hk (hends (hexit (Host.Outcome.next.inj hu)))
  case goto =>
    rw [runActs_goto hk htry] at hu
    exact runActs_ioErr hk (hends (hexit (Host.Outcome.next.inj hu)))
  case hold =>
    rw [runActs_hold hk htry] at hu
    have hsame : s.bus = s.bus ++ [e] := hexit (t := trial s) (Host.Outcome.next.inj hu)
    simp at hsame
  case done =>
    rw [runActs_done hk htry] at hu
    exact runActs_ioErr hk (hends (hexit (Host.Outcome.next.inj hu)))
  case ioErr => exact hends.elim
  case fault => simp [runActs, hk, htry] at hu

/-- A choice by what the trial leaves as it is. -/
theorem failureEnds_ite {pre : State → State} {c : State → Prop} {inst : DecidablePred c} {a b : Act}
    (hc : Untried c) (ha : FailureEnds pre a) (hb : FailureEnds pre b) :
    FailureEnds pre (fun s => if c s then a s else b s) := by
  intro s e hfail he
  by_cases h : c s
  · have htry : c (trial s) := (hc s).symm ▸ h
    simpa only [if_pos h, if_pos htry] using ha s e hfail he
  · have htry : ¬ c (trial s) := (hc s).symm ▸ h
    simpa only [if_neg h, if_neg htry] using hb s e hfail he

/-! #### Actions without a transfer -/

theorem bus_afterBus (s : State) (l : List BusEvent) : (afterBus s l).bus = s.bus ++ l := rfl

/-- From `s` to `t` the bus history grew by no transfer. -/
def NoTransfer (s t : State) : Prop := ∃ l, t.bus = s.bus ++ l ∧ ∀ x ∈ l, isTransfer x = false

theorem noTransfer_of_bus {s t : State} (h : t.bus = s.bus) : NoTransfer s t := ⟨[], by simp [h], by simp⟩

theorem noTransfer_closeHandles (s : State) : NoTransfer s (closeHandles s) := by
  rw [closeHandles_spec]
  exact ⟨_, rfl, by simp⟩

theorem noTransfer_closeIfOpen (s : State) : NoTransfer s (closeIfOpen s) := by
  unfold closeIfOpen
  split
  · exact noTransfer_closeHandles s
  · exact noTransfer_of_bus rfl

/-- An action without a transfer. -/
def Silent (a : Act) : Prop := ∀ s, (a s).Unfailed (NoTransfer s)

theorem Silent.failureEnds {pre : State → State} {a : Act} (ha : Silent a) : FailureEnds pre a := by
  refine fun s e _ he => (ha (trial s)).mono fun t ht hbus => ?_
  obtain ⟨l, hl, hno⟩ := ht
  obtain rfl : l = [e] := List.append_cancel_left (hl.symm.trans hbus)
  have : isTransfer e = false := hno e (by simp)
  simp [he] at this

theorem silent_ite {c : State → Prop} {inst : DecidablePred c} {a b : Act} (ha : Silent a) (hb : Silent b) :
    Silent (fun s => if c s then a s else b s) := by
  intro s
  beta_reduce
  split
  · exact ha s
  · exact hb s

theorem silent_step {f : State → State} (hf : ∀ s, NoTransfer s (f s)) : Silent (fun s => .step (f s)) := hf

theorem silent_goto {f : State → State} (k : Nat) (hf : ∀ s, NoTransfer s (f s)) :
    Silent (fun s => .goto k (f s)) := hf

theorem silent_pass : Silent .step := silent_step fun _ => noTransfer_of_bus rfl

theorem silent_jump (k : Nat) : Silent (.goto k) := silent_goto k fun _ => noTransfer_of_bus rfl

theorem silent_end : Silent .done := fun _ => noTransfer_of_bus rfl

theorem silent_hold : Silent (fun _ => .hold) := fun _ => trivial

theorem silent_reply {op : Byte} {st : Status} {v : State → Half} {upd : State → State}
    (hu : ∀ s, NoTransfer s (upd s)) : Silent (fun s => replyWith op st (v s) upd s) :=
  silent_ite (fun s => by
    obtain ⟨l, hl, hno⟩ := hu s
    exact ⟨l, (respond_bus op st (v s) (upd s)).trans hl, hno⟩) silent_hold

theorem silent_replyWith {op : Byte} {st : Status} {v : Half} {upd : State → State}
    (hu : ∀ s, NoTransfer s (upd s)) : Silent (replyWith op st v upd) :=
  silent_reply (v := fun _ => v) hu

/-- A reply whose updates do not touch the bus history. -/
theorem silent_replyOnly {op : Byte} {st : Status} {v : State → Half} {upd : State → State}
    (hu : ∀ s, (upd s).bus = s.bus) : Silent (fun s => replyWith op st (v s) upd s) :=
  silent_reply fun s => noTransfer_of_bus (hu s)

theorem silent_need (ok : State → Bool) (op : Byte) (st : Status) : Silent (need ok op st) :=
  silent_ite silent_pass (silent_replyWith fun _ => noTransfer_of_bus rfl)

theorem silent_holdAct : Silent holdAct := silent_ite silent_pass silent_hold

/-- A level of `reset_n_o`. -/
theorem silent_driveReset (b : Bool) : Silent (setAct (drive .reset b)) :=
  silent_step fun s => ⟨_, congrArg State.bus (drive_reset b s), by simp⟩

theorem silent_openHandles : Silent (setAct openHandles) :=
  silent_step fun s => ⟨_, congrArg State.bus (openHandles_spec s), by simp⟩

theorem silent_setAct {f : State → State} (hf : ∀ s, (f s).bus = s.bus) : Silent (setAct f) :=
  silent_step fun s => noTransfer_of_bus (hf s)

theorem silent_versionAct : Silent versionAct :=
  silent_ite silent_pass (silent_reply noTransfer_closeHandles)

theorem silent_disconnect (op : Byte) : Silent (replyWith op .ok 0 disconnected) :=
  silent_replyWith noTransfer_closeIfOpen

theorem silent_txReplyAct (st : Status) (kind : EventKind) : Silent (txReplyAct st kind) :=
  silent_replyWith (upd := fun s => emit (txEvent kind st (fromEcho s)) s) fun _ => noTransfer_of_bus (emit_bus _ _)

theorem silent_echoStart (c : Config.Params) (lp ld : Bool) (delay plen : Nat) :
    ∀ a ∈ instrProg c (.echoStart lp ld delay plen), Silent a := by
  have hplen : Silent (setAct (loadPlen lp plen)) := silent_setAct fun _ => by cases lp <;> rfl
  have hdelay : Silent (setAct (loadDelay ld delay)) := silent_setAct fun _ => by cases ld <;> rfl
  have hstart : Silent (prefixStartAct lp plen) :=
    silent_ite (silent_step fun _ => noTransfer_of_bus rfl) (silent_jump 5)
  have hcopy : Silent (prefixCopyAct plen) :=
    silent_ite (silent_goto 4 fun _ => noTransfer_of_bus rfl) (silent_step fun _ => noTransfer_of_bus rfl)
  have hlast : Silent echoStartAct :=
    silent_ite (fun _ => trivial) (silent_replyWith fun _ => noTransfer_of_bus rfl)
  simp only [instrProg, echoStartProg, List.forall_mem_cons]
  exact ⟨silent_need _ _ _, silent_need _ _ _, hstart, hcopy, hplen, hdelay, hlast, nofun⟩

/-! #### Actions with a transfer -/

/-- A transfer, after `pre`, and what follows it where it does not fail. -/
theorem failureEnds_transfer {pre : State → State} {e : State → BusEvent} {a f : Act}
    (ha : ∀ s, a s = if spiErrNow s then .ioErr (afterBus (pre s) [e s]) else f s) (he : Untried e)
    (hf : ∀ s, (f s).Unfailed fun t => t.bus = s.bus ++ [e s]) : FailureEnds pre a := by
  intro s e' hfail _
  have htry : a (trial s) = f (trial s) := ha (trial s)
  rw [htry]
  refine (hf (trial s)).mono fun t ht hbus => ?_
  have hsame : e s = e' := by simpa [ht, he s] using hbus
  rw [ha, if_pos hfail, hsame]

theorem failureEnds_writeAct {reg : Config.RegMap → ChipAddr} {val : State → Byte} {upd : State → State}
    (hv : Untried val) (hu : ∀ s, (upd s).bus = s.bus) : FailureEnds id (writeAct reg val upd) :=
  failureEnds_transfer (writeAct_spec reg val upd) (fun s => congrArg (BusEvent.write _) (hv s)) fun _ => hu _

theorem failureEnds_readAct {reg : Config.RegMap → ChipAddr} {store : Byte → State → State}
    (hu : ∀ v s, (store v s).bus = s.bus) : FailureEnds id (readAct reg store) :=
  failureEnds_transfer (readAct_spec reg store) (fun _ => rfl) fun _ => hu _ _

theorem failureEnds_opModeAct {md : Mode} {upd : State → State} (hu : ∀ s, (upd s).bus = s.bus) :
    FailureEnds id (opModeAct md upd) :=
  failureEnds_transfer (opModeAct_spec md upd) (fun _ => rfl) fun _ => hu _

/-- A register write with nothing atomic with it, of a value that the trial leaves as it is. -/
@[simp] theorem failureEnds_write {reg : Config.RegMap → ChipAddr} {val : State → Byte} (hv : Untried val) :
    FailureEnds id (writeAct reg val) := failureEnds_writeAct hv fun _ => rfl

@[simp] theorem failureEnds_readV {reg : Config.RegMap → ChipAddr} : FailureEnds id (readAct reg setV) :=
  failureEnds_readAct setV_bus

@[simp] theorem failureEnds_mode {md : Mode} : FailureEnds id (opModeAct md) := failureEnds_opModeAct fun _ => rfl

theorem failureEnds_armAct (t : Nat) : FailureEnds id (armAct t) := by
  unfold armAct
  split
  · exact failureEnds_mode
  · exact failureEnds_opModeAct fun _ => rfl

theorem failureEnds_fifoAct (n : Nat) : FailureEnds id (fifoAct n) :=
  failureEnds_transfer (e := fun s => .write s.cfg.regmap.fifo (payloadByte s s.work.i.toNat)) (fun _ => rfl)
    (fun _ => rfl) fun s => by
      split
      · exact setI_bus _ _
      · exact setI_bus _ _

/-- The poll has cleared its triggers, also where its read fails (R164, log 26). -/
theorem failureEnds_txPollAct : FailureEnds clearTriggers txPollAct := by
  refine failureEnds_ite (fun _ => rfl) ?_ silent_hold.failureEnds
  refine failureEnds_transfer (e := fun s => .read s.cfg.regmap.irqFlags (chipAnswer s)) (fun _ => rfl)
    (fun _ => rfl) fun s => ?_
  split
  · rfl
  · split <;> rfl

theorem failureEnds_crcDropAct : FailureEnds id crcDropAct :=
  failureEnds_transfer (e := fun s => .write s.cfg.regmap.irqFlags (irqRxDone ||| irqCrcErr)) (fun _ => rfl)
    (fun _ => rfl) fun _ => rfl

theorem failureEnds_rxFifoAct : FailureEnds id rxFifoAct :=
  failureEnds_transfer (e := fun s => .read s.cfg.regmap.fifo (chipAnswer s)) rxFifoAct_spec (fun _ => rfl) fun s => by
    split <;> rfl

/-- A Standby write that ends the message (R144, R176), after an update. -/
theorem failureEnds_standbyDone {pre : State → State} (hbus : ∀ s, (pre s).bus = s.bus) :
    FailureEnds pre fun s =>
      if spiErrNow s then .ioErr (afterBus (pre s) [.write s.cfg.regmap.opMode (opModeByte .standby)])
      else .done (setMode .standby (afterBus (pre s) [.write s.cfg.regmap.opMode (opModeByte .standby)])) :=
  failureEnds_transfer (fun _ => rfl) (fun _ => rfl) fun s => congrArg (· ++ _) (hbus s)

theorem failureEnds_rxEndAct : FailureEnds id rxEndAct :=
  failureEnds_ite (fun _ => rfl) (failureEnds_standbyDone (pre := id) fun _ => rfl)
    silent_end.failureEnds

theorem failureEnds_spuriousAct : FailureEnds id spuriousAct :=
  failureEnds_ite (fun _ => rfl) silent_end.failureEnds
    (failureEnds_transfer (e := fun s => .write s.cfg.regmap.irqFlags s.work.irq) (fun _ => rfl) (fun _ => rfl)
      fun _ => rfl)

/-- An RXTMO token has cleared x[RXS_FIRED], also where its write fails (R144, log 26). -/
theorem failureEnds_rxTimeoutAct : FailureEnds clearFired rxTimeoutAct :=
  failureEnds_ite (fun _ => rfl) (failureEnds_standbyDone (pre := clearFired) fun _ => rfl)
    silent_end.failureEnds

/-! #### The programs of all messages -/

/-- Every failed transfer of the program ends the message at it. -/
def FailuresEnd (prog : List Act) : Prop := ∀ a ∈ prog, FailureEnds id a

theorem failuresEnd_append {l l' : List Act} (h : FailuresEnd l) (h' : FailuresEnd l') : FailuresEnd (l ++ l') :=
  List.forall_mem_append.mpr ⟨h, h'⟩

theorem failuresEnd_cons {a : Act} {l : List Act} (h : FailureEnds id a) (h' : FailuresEnd l) :
    FailuresEnd (a :: l) := List.forall_mem_cons.mpr ⟨h, h'⟩

theorem failuresEnd_of_silent {l : List Act} (h : ∀ a ∈ l, Silent a) : FailuresEnd l :=
  fun a ha => (h a ha).failureEnds

theorem failuresEnd_frfActs (f : Nat) : FailuresEnd (frfActs f) := by simp [FailuresEnd, frfActs, untried_iff]

theorem failuresEnd_sfBody (sf : Nat) : FailuresEnd (sfBody sf) := by
  unfold sfBody
  split <;> simp [FailuresEnd, untried_iff]

theorem failuresEnd_bwBody (k : Nat) : FailuresEnd (bwBody k) := by simp [FailuresEnd, bwBody, untried_iff]
theorem failuresEnd_crBody (cr : Nat) : FailuresEnd (crBody cr) := by simp [FailuresEnd, crBody, untried_iff]
theorem failuresEnd_powerBody (p : Nat) : FailuresEnd (powerBody p) := by simp [FailuresEnd, powerBody, untried_iff]
theorem failuresEnd_syncBody (w : Nat) : FailuresEnd (syncBody w) := by simp [FailuresEnd, syncBody, untried_iff]

theorem failuresEnd_applyDefaults : FailuresEnd applyDefaults := by
  refine failuresEnd_append (failuresEnd_append (failuresEnd_append (failuresEnd_append (failuresEnd_append
    (failuresEnd_powerBody 14) (failuresEnd_sfBody 7)) (failuresEnd_bwBody 7)) (failuresEnd_crBody 5)) ?_)
    (failuresEnd_syncBody 0x34)
  simp [FailuresEnd, untried_iff]

theorem failuresEnd_beginConfig (f : Nat) : FailuresEnd (beginConfig f) := by
  refine failuresEnd_append (failuresEnd_append (failuresEnd_append (failuresEnd_frfActs f) ?_)
    failuresEnd_applyDefaults) ?_ <;> simp [FailuresEnd, untried_iff]

/-- A setter's program, by its body (R134). -/
theorem failuresEnd_setterProg {op : Byte} {legal : Bool} {body : List Act} {shadow : RadioCfg → RadioCfg}
    (hb : FailuresEnd body) : FailuresEnd (setterProg op legal body shadow) :=
  failuresEnd_append (failuresEnd_append (failuresEnd_of_silent (List.forall_mem_cons.mpr
    ⟨silent_need _ _ _, List.forall_mem_singleton.mpr (silent_need _ _ _)⟩)) hb)
    (failuresEnd_of_silent (List.forall_mem_singleton.mpr (silent_replyWith fun _ => noTransfer_of_bus rfl)))

theorem silent_waitActs (ms : Nat) : ∀ a ∈ waitActs ms, Silent a :=
  List.forall_mem_cons.mpr ⟨silent_setAct fun _ => rfl, List.forall_mem_singleton.mpr silent_holdAct⟩

theorem failuresEnd_beginStart (f : Nat) : FailuresEnd (beginStart f) := by
  have hwait := failuresEnd_of_silent (silent_waitActs 10)
  refine failuresEnd_append (failuresEnd_append (failuresEnd_append (failuresEnd_append (failuresEnd_append ?_ hwait)
    ?_) hwait) ?_) hwait
  · refine failuresEnd_of_silent ?_
    simp only [List.forall_mem_cons]
    exact ⟨silent_need _ _ _, silent_need _ _ _, silent_openHandles, silent_driveReset false, nofun⟩
  · exact failuresEnd_of_silent (List.forall_mem_singleton.mpr (silent_driveReset true))
  · exact failuresEnd_cons failureEnds_readV (failuresEnd_cons silent_versionAct.failureEnds
      (List.forall_mem_singleton.mpr failureEnds_mode))

/-- A command of one transfer, between the connection check and the reply. -/
theorem failuresEnd_checkedAct {op o : Byte} {st : Status} {v : State → Half} {a : Act} (ha : FailureEnds id a) :
    FailuresEnd [needConnected op, a, fun s => replyWith o st (v s) id s] :=
  failuresEnd_cons (silent_need _ _ _).failureEnds (failuresEnd_cons ha
    (List.forall_mem_singleton.mpr (silent_replyOnly fun _ => rfl).failureEnds))

theorem failuresEnd_receiveMode (c : Config.Params) (t : Nat) : FailuresEnd (instrProg c (.receiveMode t)) := by
  simp only [instrProg, FailuresEnd, List.forall_mem_cons]
  exact ⟨(silent_need _ _ _).failureEnds, (silent_need _ _ _).failureEnds, failureEnds_mode,
    failureEnds_write fun _ => rfl, failureEnds_write fun _ => rfl, failureEnds_write fun _ => rfl,
    failureEnds_armAct t, (silent_replyWith fun _ => noTransfer_of_bus rfl).failureEnds, nofun⟩

theorem silent_hardwareReset (c : Config.Params) : ∀ a ∈ instrProg c .hardwareReset, Silent a := by
  simp only [instrProg, List.forall_mem_append, List.forall_mem_cons]
  exact ⟨⟨⟨⟨⟨silent_need _ _ _, silent_driveReset false, nofun⟩, silent_waitActs 10⟩, silent_driveReset true, nofun⟩,
    silent_waitActs 10⟩, silent_replyWith fun _ => noTransfer_of_bus rfl, nofun⟩

/-- A command of one silent step. -/
theorem failuresEnd_singleton {a : Act} (ha : Silent a) : FailuresEnd [a] :=
  List.forall_mem_singleton.mpr ha.failureEnds

/-- Every failed transfer of a command that is no TRANSMIT ends it with nothing else of its action done. -/
theorem failuresEnd_instrProg (c : Config.Params) {i : Instr} (hi : ∀ n, i ≠ .transmit n) :
    FailuresEnd (instrProg c i) := by
  cases i with
  | begin f =>
    exact failuresEnd_append (failuresEnd_append (failuresEnd_beginStart f) (failuresEnd_beginConfig f))
      (failuresEnd_singleton (silent_replyWith fun _ => noTransfer_of_bus rfl))
  | setFrequency f =>
    unfold instrProg
    exact failuresEnd_setterProg (failuresEnd_cons failureEnds_mode (failuresEnd_frfActs f))
  | setSf sf => exact failuresEnd_setterProg (failuresEnd_sfBody sf)
  | setBw k =>
    unfold instrProg
    exact failuresEnd_setterProg (failuresEnd_bwBody k)
  | setCr k =>
    unfold instrProg
    exact failuresEnd_setterProg (failuresEnd_crBody k)
  | setTxPower p =>
    unfold instrProg
    exact failuresEnd_setterProg (failuresEnd_powerBody p)
  | setSyncWord w =>
    unfold instrProg
    exact failuresEnd_setterProg (failuresEnd_syncBody w)
  | transmit n => exact absurd rfl (hi n)
  | receiveMode t => exact failuresEnd_receiveMode c t
  | standby => exact failuresEnd_checkedAct (v := fun _ => 0) failureEnds_mode
  | sleep => exact failuresEnd_checkedAct (v := fun _ => 0) failureEnds_mode
  | hardwareReset => exact failuresEnd_of_silent (silent_hardwareReset c)
  | disconnect => exact failuresEnd_singleton (silent_disconnect _)
  | getRssi => exact failuresEnd_checkedAct failureEnds_readV
  | getVersion => exact failuresEnd_checkedAct failureEnds_readV
  | subscribe id' => exact failuresEnd_singleton (silent_replyWith fun _ => noTransfer_of_bus rfl)
  | unsubscribe id' => exact failuresEnd_singleton (silent_replyWith fun _ => noTransfer_of_bus rfl)
  | echoStart lp ld delay plen => exact failuresEnd_of_silent (silent_echoStart c lp ld delay plen)
  | echoStop =>
    refine failuresEnd_singleton (silent_replyWith fun s => noTransfer_of_bus ?_)
    unfold echoStopped
    split <;> rfl

/-- Every failed transfer of a TRANSMIT ends it; the poll of the wait, its step 9, has cleared its triggers. -/
theorem numbered_failureEnds_transmit (n : Nat) :
    Numbered (fun k => FailureEnds (if k = 9 then clearTriggers else id)) 1 (transmitProg n) :=
  ⟨(silent_need _ _ _).failureEnds, (silent_need _ _ _).failureEnds, failureEnds_mode,
    failureEnds_writeAct (fun _ => rfl) (setI_bus 0), failureEnds_fifoAct n, failureEnds_write fun _ => rfl,
    failureEnds_write fun _ => rfl, failureEnds_opModeAct fun _ => rfl, failureEnds_txPollAct,
    failureEnds_write fun _ => rfl, failureEnds_opModeAct fun _ => rfl, (silent_txReplyAct _ _).failureEnds,
    failureEnds_opModeAct fun _ => rfl, (silent_txReplyAct _ _).failureEnds, trivial⟩

/-- Every failed transfer of a DIO0 dispatch ends it (R170). -/
theorem failuresEnd_dispatchProg : FailuresEnd dispatchProg := by
  have hbranch : Silent edgeBranchAct := silent_ite (silent_ite (silent_jump 4) (silent_jump 5)) (silent_jump 15)
  have hlength : Silent frameLengthAct :=
    silent_ite (silent_jump 13) (silent_step fun _ => noTransfer_of_bus rfl)
  simp only [FailuresEnd, dispatchProg, List.forall_mem_cons]
  exact ⟨(silent_ite silent_pass silent_end).failureEnds, failureEnds_readAct fun _ _ => rfl, hbranch.failureEnds,
    failureEnds_crcDropAct, failureEnds_readAct fun _ _ => rfl, failureEnds_write fun _ => rfl,
    failureEnds_readAct fun _ _ => rfl, hlength.failureEnds, failureEnds_rxFifoAct,
    failureEnds_readAct fun _ _ => rfl, failureEnds_readAct fun _ _ => rfl,
    (silent_setAct fun s => emit_bus (rxEvent s) s).failureEnds, failureEnds_write fun _ => rfl,
    failureEnds_rxEndAct, failureEnds_spuriousAct, nofun⟩

/-- What an action of a message has done before its transfer: a poll of the TX wait has cleared its triggers (R164),
and an RXTMO token x[RXS_FIRED] (R144; log 26). -/
def beforeTransfer (m : Msg) (k : Nat) (s : State) : State :=
  if m = .rxtmo then clearFired s else if isTransmit m = true ∧ k = 9 then clearTriggers s else s

theorem FailuresEnd.failureEnds {m : Msg} {prog : List Act} (h : FailuresEnd prog) (hm : m ≠ .rxtmo)
    (ht : isTransmit m = false) {k : Nat} {a : Act} (ha : stepAt prog k = some a) : FailureEnds (beforeTransfer m k) a := by
  have hpre : beforeTransfer m k = id := by
    funext s
    simp [beforeTransfer, hm, ht]
  rw [hpre]
  cases k with
  | zero => cases ha
  | succ k => exact h a (List.mem_of_getElem? ha)

/-- Every failed transfer of a command's message ends it. -/
theorem failureEnds_instr {m : Msg} {i : Instr} (hi : msgInstr m = some i) (c : Config.Params) {k : Nat} {a : Act}
    (ha : stepAt (instrProg c i) k = some a) : FailureEnds (beforeTransfer m k) a := by
  have hm : m ≠ .rxtmo := by rintro rfl; cases hi
  by_cases ht : ∃ n, i = .transmit n
  · obtain ⟨n, rfl⟩ := ht
    have hpre : beforeTransfer m k = if k = 9 then clearTriggers else id := by
      funext s
      by_cases hk : k = 9 <;> simp [beforeTransfer, hm, isTransmit, hi, hk]
    rw [hpre]
    exact (numbered_failureEnds_transmit n).stepAt ha
  · have hno : ∀ n, i ≠ .transmit n := fun n h => ht ⟨n, h⟩
    refine (failuresEnd_instrProg c hno).failureEnds hm ?_ ha
    unfold isTransmit
    rw [hi]
    split
    · rename_i n h
      exact absurd (Option.some.inj h) (hno n)
    · rfl

/-- Every failed transfer of a message ends it. -/
theorem failureEnds_msgProg {c : Config.Params} {m : Msg} {k : Nat} {a : Act}
    (ha : stepAt (msgProg c m) k = some a) : FailureEnds (beforeTransfer m k) a := by
  rcases m with w | ⟨_ | _, arg, sess⟩ | _ | _
  case hcmd =>
    rcases hd : decode w with ⟨⟨op⟩⟩ | i <;> simp only [msgProg, hd] at ha
    · refine (failuresEnd_singleton (silent_replyWith fun _ => noTransfer_of_bus rfl)).failureEnds (by simp) ?_ ha
      simp [isTransmit, msgInstr, hd]
    · exact failureEnds_instr (by simp [msgInstr, hd]) c ha
  case ecall.receiveMode => exact failureEnds_instr (i := .receiveMode arg.toNat) rfl c ha
  case ecall.transmit => exact failureEnds_instr (i := .transmit arg.toNat) rfl c ha
  case edge => exact failuresEnd_dispatchProg.failureEnds (by simp) rfl ha
  case rxtmo =>
    obtain rfl := stepAt_singleton ha
    exact failureEnds_rxTimeoutAct

/-! #### The IoError step after a failed transfer -/

/-- IoError drops x[RXS_FIRED] in any case, so that an RXTMO token's clearing of it does not show (R144, R226). -/
theorem ioErrorStep_beforeTransfer (m : Msg) (k : Nat) (s : State) (l : List BusEvent) :
    ioErrorStep (msgOpcode m) m (afterBus (beforeTransfer m k s) l) =
      ioErrorStep (msgOpcode m) m (afterBus (if isTransmit m = true ∧ k = 9 then clearTriggers s else s) l) := by
  unfold beforeTransfer
  split
  · rename_i hm
    subst hm
    have hdrop : dropLink (afterBus (clearFired s) l) = dropLink (afterBus s l) := by
      have heng : (afterBus (clearFired s) l).eng = (afterBus s l).eng := rfl
      simp only [dropLink, closeIfOpen, heng]
      split <;> rfl
    exact congrArg (setPc .idle) hdrop
  · rfl

/-- The parameters that a trial leaves as they are make the message's program. -/
theorem msgProg_trial (m : Msg) (s : State) : msgProg (trial s).cfg m = msgProg s.cfg m := by
  have hinstr (i : Instr) : instrProg (trial s).cfg i = instrProg s.cfg i := by cases i <;> rfl
  rcases m with w | ⟨_ | _, arg, sess⟩ | _ | _
  case hcmd => simp only [msgProg, hinstr]
  all_goals rfl

/-- A turn on a message whose transfer, known from the trial, fails (R104, R226). -/
theorem runMsg_failure {m : Msg} {k : Nat} {e : BusEvent} {s u : State} (hpc : s.eng.pc = .run m k)
    (hfail : spiErrNow s = true) (hquant : 1 ≤ s.env.quantum) (hu : runMsg m (trial s) = .next u)
    (hbus : u.bus = s.bus ++ [e]) (he : isTransfer e = true) :
    runMsg m s = .next (ioErrorStep (msgOpcode m) m (afterBus (beforeTransfer m k s) [e])) := by
  obtain ⟨n, hn⟩ := Nat.exists_eq_add_of_le' hquant
  rw [runMsg_eq_runMessage, msgProg_trial, runMessage_run (s := trial s) hpc] at hu
  rw [runMsg_eq_runMessage, runMessage_run hpc, hn]
  exact runActs_failure (fun a => failureEnds_msgProg) hfail he hu hbus

section
variable {op : Option Byte} {prog : List Act} {m : Msg} {k : Nat} {s : State}

/-- A turn that begins at an action whose transfer fails ends with the IoError step. -/
theorem runMessage_ioErr {a : Act} {t : State} (hpc : s.eng.pc = .run m k) (hquant : 1 ≤ s.env.quantum)
    (ha : stepAt prog k = some a) (h : a s = .ioErr t) :
    runMessage op prog s = .next (ioErrorStep op m t) := by
  obtain ⟨n, hn⟩ := Nat.exists_eq_add_of_le' hquant
  rw [runMessage_run hpc, hn, runActs_ioErr ha h]

/-- A turn that begins at a mode write that fails. -/
theorem runMessage_opMode_fails {md : Mode} {upd : State → State} (hpc : s.eng.pc = .run m k)
    (hquant : 1 ≤ s.env.quantum) (hfail : spiErrNow s = true) (ha : stepAt prog k = some (opModeAct md upd)) :
    runMessage op prog s =
      .next (ioErrorStep op m (afterBus s [.write s.cfg.regmap.opMode (opModeByte md)])) :=
  runMessage_ioErr hpc hquant ha (by rw [opModeAct_spec, if_pos hfail])

/-- A turn that begins at a register read that fails. -/
theorem runMessage_read_fails {reg : Config.RegMap → ChipAddr} {store : Byte → State → State}
    (hpc : s.eng.pc = .run m k) (hquant : 1 ≤ s.env.quantum) (hfail : spiErrNow s = true)
    (ha : stepAt prog k = some (readAct reg store)) :
    runMessage op prog s =
      .next (ioErrorStep op m (afterBus s [.read (reg s.cfg.regmap) (answer s 0)])) :=
  runMessage_ioErr hpc hquant ha (by rw [readAct_spec, if_pos hfail, chipAnswer_spec])

end

/-! #### The poll of the TX wait -/

/-- A poll of the TX wait whose read fails (R164, log 26). -/
theorem txPollAct_fails {s : State} (htrig : s.tx.pollReq = true ∨ s.tx.edge = true) (hfail : spiErrNow s = true) :
    txPollAct s = .ioErr (afterBus (clearTriggers s) [.read s.cfg.regmap.irqFlags (answer s 0)]) := by
  have htrue : (s.tx.pollReq || s.tx.edge) = true := by simpa using htrig
  rw [txPollAct_spec, if_pos htrue]
  exact if_pos hfail

/-- The IoError step in the TX wait: the link dropped, the response, and the TX_ERROR event (R164, R226). -/
theorem ioErrorEffect_pending (o : Byte) {s : State} (hp : s.tx.pending = true) :
    ioErrorEffect (some o) s =
      setPc .idle (emit (txEvent .txError .ioError (fromEcho s)) (respond o .ioError 0 (dropLink s))) := by
  rw [ioErrorEffect_eq, ioErrorBody, if_pos hp]

/-- The host's copy of an event, where it subscribes and EVTQ has room (R175). -/
theorem emit_evtq {e : Event} {s : State} (hsub : s.subs.host ≠ 0) (hroom : s.evtq.length < s.cfg.evtqDepth) :
    (emit e s).evtq = s.evtq ++ [⟨e, s.subs.host⟩] := by
  have hpost : postEvt e s = { s with evtq := s.evtq ++ [⟨e, s.subs.host⟩] } := by
    rw [postEvt, if_neg hsub, if_pos hroom]
  rw [emit_spec, hpost]
  split
  · exact postEq_evtq _ _
  · rfl

/-- What the IoError step in the TX wait leaves, apart from the engine's registers: x[TXP] is 0, the bus history has no
further transfer, and besides the response there is the TX_ERROR event (R164, R226). -/
theorem ioErrorEffect_txWait (o : Byte) {s : State} (hp : s.tx.pending = true) :
    let t := ioErrorEffect (some o) s
    t.tx.pending = false ∧ t.work = s.work ∧ t.radio = s.radio ∧ NoTransfer s t ∧
    (s.eng.origin = .host → t.rspq = s.rspq ++ [⟨.ioError, o, 0⟩]) ∧
    (∀ sess, s.eng.origin = .echo sess → t.rpl = ⟨true, .ioError, sess⟩) ∧
    (s.subs.host ≠ 0 → s.evtq.length < s.cfg.evtqDepth →
      t.evtq = s.evtq ++ [⟨txEvent .txError .ioError (fromEcho s), s.subs.host⟩]) := by
  obtain ⟨hcfg, horigin, hrspq, -⟩ := unanswered_dropLink s
  have hsubs : (dropLink s).subs = s.subs := by simp [dropLink]
  have hevtq : (dropLink s).evtq = s.evtq := by simp [dropLink]
  rw [ioErrorEffect_pending o hp]
  refine ⟨by simp [dropLink], by simp [dropLink], by simp [dropLink], ?_, fun ho => ?_, fun sess ho => ?_,
    fun hsub hroom => ?_⟩
  · obtain ⟨l, hl, hno⟩ := noTransfer_closeIfOpen s
    exact ⟨l, by simpa [dropLink] using hl, hno⟩
  · rw [respond_toHost _ _ _ _ (horigin.trans ho)]
    simp [hrspq]
  · rw [respond_toCall _ _ _ _ sess (horigin.trans ho)]
    simp
  · rw [setPc_evtq, emit_evtq (by simpa [hsubs] using hsub) (by simpa [hevtq, hcfg] using hroom)]
    simp [hevtq, hsubs]

end Sys2Proof.Machine

namespace Sys2Proof.Proofs

open Sys2Proof.Machine Sys2Proof.Safety

/-- A message at its failed transfer takes the IoError step, or is held at it (R226, log 10). -/
theorem runMsg_failed {m : Msg} {s : State} (hpc : s.eng.pc = .failed m) (hquant : 1 ≤ s.env.quantum) :
    runMsg m s = .next (ioErrorStep (msgOpcode m) m s) := by
  have hne : s.env.quantum ≠ 0 := by omega
  simp only [runMsg_eq_runMessage, runMessage, hpc, if_neg hne]

section
variable {i : Instr} {m : Msg} {k : Nat} {s : State}

/-- A turn on a command that begins at a mode write that fails. -/
theorem exec_opMode_fails (md : Mode) (hpc : s.eng.pc = .run m k) (hquant : 1 ≤ s.env.quantum)
    (hfail : spiErrNow s = true) (ha : stepAt (instrProg s.cfg i) k = some (opModeAct md)) :
    exec i s = .next (ioErrorStep (some i.opcode) m (afterBus s [.write s.cfg.regmap.opMode (opModeByte md)])) :=
  (exec_eq_runMessage i s).trans (runMessage_opMode_fails hpc hquant hfail ha)

/-- A turn on a command that begins at a register read that fails. -/
theorem exec_read_fails (reg : Config.RegMap → ChipAddr) (hpc : s.eng.pc = .run m k) (hquant : 1 ≤ s.env.quantum)
    (hfail : spiErrNow s = true) (ha : stepAt (instrProg s.cfg i) k = some (readAct reg setV)) :
    exec i s = .next (ioErrorStep (some i.opcode) m (afterBus s [.read (reg s.cfg.regmap) (answer s 0)])) :=
  (exec_eq_runMessage i s).trans (runMessage_read_fails hpc hquant hfail ha)

/-- A turn on a TRANSMIT in its wait, whose poll fails with room for the response (R164, R226). -/
theorem exec_poll_fails {n : Nat} (hpc : s.eng.pc = .run m 9) (hquant : 1 ≤ s.env.quantum)
    (hfail : spiErrNow s = true) (htrig : s.tx.pollReq = true ∨ s.tx.edge = true) (hroom : canReply s = true) :
    exec (.transmit n) s = .next (ioErrorEffect (some 0x08)
      (afterBus (clearTriggers s) [.read s.cfg.regmap.irqFlags (answer s 0)])) := by
  have hready : ioErrorReady (some (Instr.transmit n).opcode)
      (afterBus (clearTriggers s) [.read s.cfg.regmap.irqFlags (answer s 0)]) = true := hroom
  rw [exec_eq_runMessage, runMessage_ioErr hpc hquant (a := txPollAct) rfl (txPollAct_fails htrig hfail), ioErrorStep,
    if_pos hready]
  rfl

/-- The turn on an RXTMO token whose Standby write fails (R144, R226). -/
theorem runMsg_rxtmo_fails (hpc : s.eng.pc = .run .rxtmo 1) (hquant : 1 ≤ s.env.quantum) (hfail : spiErrNow s = true)
    (hf : s.rxs.fired = true) :
    runMsg .rxtmo s = .next (ioErrorStep none .rxtmo (afterBus s [.write s.cfg.regmap.opMode 0x81])) := by
  have hact : rxTimeoutAct s =
      .ioErr (afterBus (beforeTransfer .rxtmo 1 s) [.write s.cfg.regmap.opMode (opModeByte .standby)]) := by
    rw [rxTimeoutAct_spec, if_pos hf, if_pos hfail]
    rfl
  rw [runMsg_eq_runMessage, runMessage_ioErr hpc hquant (a := rxTimeoutAct) rfl hact, ioErrorStep_beforeTransfer]
  rfl

end

/-- Settles O11: the first clause by the trial, from which every action's transfer is known; the others by the action
they name. -/
theorem failedTransfersEndTheMessage : Obligations.FailedTransfersEndTheMessage := by
  refine ⟨fun m k e s u hpc hfail hquant hu hbus he => ?_, fun m s hpc hquant => runMsg_failed hpc hquant,
    fun i m s hfail hquant => ⟨?_, ?_, ?_, fun hi hpc => ?_, ?_, fun n hi hpc htrig hp hroom => ?_⟩,
    fun s hfail hquant => ⟨fun hpc => ?_, fun hpc hf => runMsg_rxtmo_fails hpc hquant hfail hf⟩⟩
  · rw [runMsg_failure hpc hfail hquant hu hbus he, ioErrorStep_beforeTransfer]
  · rintro op (⟨rfl, rfl⟩ | ⟨rfl, rfl⟩) hpc
    · exact exec_opMode_fails .standby hpc hquant hfail rfl
    · exact exec_opMode_fails .sleep hpc hquant hfail rfl
  · rintro rfl hpc
    exact exec_read_fails (fun r => r.version) hpc hquant hfail rfl
  · rintro rfl hpc
    exact exec_read_fails (fun r => r.rssi) hpc hquant hfail rfl
  · have hstep : stepAt (instrProg s.cfg i) 3 = some (opModeAct .standby) := by
      rcases hi with ⟨v, rfl⟩ | ⟨v, rfl⟩ | ⟨v, rfl⟩ | ⟨v, rfl⟩ | ⟨v, rfl⟩ | ⟨v, rfl⟩ | ⟨v, rfl⟩ | ⟨v, rfl⟩ <;> rfl
    exact exec_opMode_fails .standby hpc hquant hfail hstep
  · rintro f rfl hpc
    exact exec_read_fails (fun r => r.version) hpc hquant hfail rfl
  · subst hi
    have hpend : (afterBus (clearTriggers s) [.read s.cfg.regmap.irqFlags (answer s 0)]).tx.pending = true := hp
    obtain ⟨hidle, hwork, hradio, ⟨l, hbus, hno⟩, hrspq, hrpl, hevtq⟩ := ioErrorEffect_txWait 0x08 hpend
    refine ⟨_, exec_poll_fails hpc hquant hfail htrig hroom, ?_, ?_, ?_, ?_, hidle, hwork, hradio, ⟨l, ?_, hno⟩, hrspq,
      hrpl, hevtq⟩
    case refine_5 => rw [hbus, bus_afterBus, List.append_assoc]; rfl
    all_goals rw [ioErrorEffect_eng]
  · exact (runMsg_eq_runMessage _ s).trans (runMessage_read_fails (reg := fun r => r.irqFlags) hpc hquant hfail rfl)

end Sys2Proof.Proofs
end

/-! ### Stretches of transfers: the bodies of the setters, and BEGIN's configuration -/

section

namespace Sys2Proof.Machine

open Sys2Proof.Safety

/-- The transfers that the setters' bodies and BEGIN's configuration are made of (R120, R134): the Standby write, a
register read into x[W_V], and a register write of a value made from x[W_V]. -/
inductive RegTransfer
  | standby
  | read (reg : Config.RegMap → ChipAddr)
  | write (reg : Config.RegMap → ChipAddr) (val : Byte → Byte)

/-- A write of a value that does not depend on x[W_V]. -/
abbrev RegTransfer.const (reg : Config.RegMap → ChipAddr) (v : Byte) : RegTransfer := .write reg fun _ => v

/-- The transfer as an atomic action. -/
def RegTransfer.act : RegTransfer → Act
  | .standby => opModeAct .standby
  | .read reg => readAct reg setV
  | .write reg val => writeAct reg (fun s => val s.work.v)

/-- How far a stretch of transfers has come: its bus history, x[W_V], and whether Standby has been entered. -/
structure Stretch where
  events : List BusEvent
  v : Byte
  standby : Bool

/-- The stretch after one more transfer, where none fails; `a` gives the chip's answers by number. -/
def Stretch.add (r : Config.RegMap) (a : Nat → Byte) (p : Stretch) : RegTransfer → Stretch
  | .standby => { p with events := p.events ++ [.write r.opMode 0x81], standby := true }
  | .read reg =>
    { p with
      events := p.events ++ [.read (reg r) (a (p.events.countP isRead))]
      v := a (p.events.countP isRead) }
  | .write reg val => { p with events := p.events ++ [.write (reg r) (val p.v)] }

/-- The state after a stretch of transfers from `s` on. -/
def Stretch.after (s : State) (p : Stretch) : State :=
  setV p.v (if p.standby then setMode .standby (afterBus s p.events) else afterBus s p.events)

/-- The state after transfers none of which fails. -/
def afterTransfers (s : State) (xs : List RegTransfer) : State :=
  Stretch.after s (xs.foldl (Stretch.add s.cfg.regmap (answer s)) ⟨[], s.work.v, false⟩)

section
variable (s : State) (p : Stretch)

/-- A stretch touches the bus history, x[W_V], and by its Standby write the mode and the RX-single timer. -/
theorem Stretch.after_eq_or :
    p.after s = setV p.v (afterBus s p.events) ∨ p.after s = setV p.v (setMode .standby (afterBus s p.events)) := by
  unfold Stretch.after
  cases p.standby
  · exact .inl rfl
  · exact .inr rfl

@[simp] theorem Stretch.after_cfg : (p.after s).cfg = s.cfg := by
  rcases p.after_eq_or s with h | h <;> rw [h] <;> rfl

@[simp] theorem Stretch.after_rspq : (p.after s).rspq = s.rspq := by
  rcases p.after_eq_or s with h | h <;> rw [h] <;> rfl

@[simp] theorem Stretch.after_origin : (p.after s).eng.origin = s.eng.origin := by
  rcases p.after_eq_or s with h | h <;> rw [h] <;> rfl

@[simp] theorem Stretch.after_env :
    (p.after s).env = s.env.advance (p.events.countP isTransfer) (p.events.countP isRead) := by
  rcases p.after_eq_or s with h | h <;> rw [h] <;> rfl

@[simp] theorem Stretch.after_v : (p.after s).work.v = p.v := rfl

/-- More of the bus history after a stretch. -/
theorem Stretch.afterBus_after (l : List BusEvent) :
    afterBus (p.after s) l = Stretch.after s { p with events := p.events ++ l } := by
  unfold Stretch.after
  rw [← afterBus_afterBus]
  cases p.standby <;> rfl

/-- Standby entered at the end of a stretch. -/
theorem Stretch.setMode_after : setMode .standby (p.after s) = Stretch.after s { p with standby := true } := by
  rcases p with ⟨l, v, _ | _⟩ <;> rfl

/-- One more transfer after a stretch, where it does not fail. -/
theorem RegTransfer.act_after (x : RegTransfer) (herr : spiErrNow (p.after s) = false) :
    x.act (p.after s) = .step (Stretch.after s (p.add s.cfg.regmap (answer s) x)) := by
  cases x with
  | standby =>
    simp only [RegTransfer.act, opModeAct_spec, herr, p.afterBus_after s, Stretch.setMode_after, Stretch.after_cfg]
    rfl
  | read reg =>
    have hans : chipAnswer (p.after s) = answer s (p.events.countP isRead) :=
      chipAnswer_later _ (by simp) (by simp)
    simp only [RegTransfer.act, readAct_spec, herr, hans, p.afterBus_after s, Stretch.after_cfg]
    rfl
  | write reg val =>
    simp only [RegTransfer.act, writeAct_spec, herr, p.afterBus_after s, Stretch.after_cfg, Stretch.after_v]
    rfl

/-- A stretch has as many transfers as it was made of. -/
theorem Stretch.add_length (r : Config.RegMap) (a : Nat → Byte) (x : RegTransfer) :
    (p.add r a x).events.length = p.events.length + 1 := by
  cases x <;> simp [Stretch.add]

end

section
variable {op : Option Byte} {m : Msg} {s : State}

/-- A run through a stretch of transfers, none of which fails, from the middle of the stretch on. -/
theorem runActs_stretch {prog : List Act} {j n : Nat} (herr : noSpiErr s j) (xs : List RegTransfer) :
    ∀ (k : Nat) (p : Stretch), (∀ i x, xs[i]? = some x → stepAt prog (k + i) = some x.act) →
      p.events.length + xs.length ≤ j →
      runActs op prog m (n + xs.length) k (p.after s) =
        runActs op prog m n (k + xs.length) (Stretch.after s (xs.foldl (Stretch.add s.cfg.regmap (answer s)) p)) := by
  induction xs with
  | nil => intro k p _ _; rfl
  | cons x xs ih =>
    intro k p hprog hlen
    rw [List.length_cons] at hlen
    have hcount : p.events.countP isTransfer < j := by
      have := List.countP_le_length (p := isTransfer) (l := p.events)
      omega
    have hnow : spiErrNow (p.after s) = false := spiErrNow_later herr _ hcount (by simp) (by simp) (by simp)
    have htail : ∀ i y, xs[i]? = some y → stepAt prog (k + 1 + i) = some y.act := by
      intro i y hy
      rw [Nat.add_right_comm]
      exact hprog (i + 1) y hy
    have hhead : stepAt prog k = some x.act := hprog 0 x rfl
    rw [List.length_cons, ← Nat.add_assoc, runActs_step hhead (x.act_after s p hnow),
      ih (k + 1) _ htail (by rw [Stretch.add_length]; omega), List.foldl_cons, Nat.add_right_comm k, Nat.add_assoc k]

/-- A run through the stretch of transfers in the middle of a program. -/
theorem runActs_transfers {n : Nat} (pre post : List Act) (xs : List RegTransfer) (herr : noSpiErr s xs.length) :
    runActs op (pre ++ xs.map RegTransfer.act ++ post) m (n + xs.length) (pre.length + 1) s =
      runActs op (pre ++ xs.map RegTransfer.act ++ post) m n (pre.length + xs.length + 1) (afterTransfers s xs) := by
  have hprog : ∀ i x, xs[i]? = some x →
      stepAt (pre ++ xs.map RegTransfer.act ++ post) (pre.length + 1 + i) = some x.act := by
    intro i x hx
    have hi : i < xs.length := (List.getElem?_eq_some_iff.mp hx).1
    rw [Nat.add_right_comm, stepAt_succ, List.append_assoc, List.getElem?_append_right (by omega),
      Nat.add_sub_cancel_left, List.getElem?_append_left (by simpa using hi), List.getElem?_map, hx]
    rfl
  have hstart : Stretch.after s ⟨[], s.work.v, false⟩ = s := afterBus_nil s
  have hrun := runActs_stretch (op := op) (m := m) (n := n) herr xs _ ⟨[], s.work.v, false⟩ hprog (by simp)
  rwa [hstart, Nat.add_right_comm] at hrun

/-- Room for the reply after a stretch of transfers. -/
theorem canReply_afterTransfers (h : canReply s = true) (xs : List RegTransfer) :
    canReply (afterTransfers s xs) = true :=
  canReply_later h (by simp [afterTransfers]) (by simp [afterTransfers]) (by simp [afterTransfers])

/-- A program that ends with a stretch of transfers and the reply, run from the start of the stretch. -/
theorem runActs_transfers_reply {n : Nat} {o : Byte} {upd : State → State} (pre : List Act) (xs : List RegTransfer)
    (hroom : canReply s = true) (herr : noSpiErr s xs.length) :
    runActs op (pre ++ xs.map RegTransfer.act ++ [replyWith o .ok 0 upd]) m (n + 1 + xs.length) (pre.length + 1) s =
      .next (answered o .ok 0 (upd (afterTransfers s xs))) := by
  have hreply : stepAt (pre ++ xs.map RegTransfer.act ++ [replyWith o .ok 0 upd]) (pre.length + xs.length + 1) =
      some (replyWith o .ok 0 upd) := by
    rw [stepAt_succ, List.getElem?_append_right (by simp)]
    simp
  rw [runActs_transfers pre _ xs herr, runActs_reply hreply (canReply_afterTransfers hroom xs)]

/-- A setter whose checks pass and whose transfers do not fail completes (R134). -/
theorem runMessage_setter {o : Byte} {legal : Bool} {shadow : RadioCfg → RadioCfg} {xs : List RegTransfer} {j : Nat}
    (hpc : s.eng.pc = .run m 1) (hconn : s.eng.connected = true) (hlegal : legal = true) (hroom : canReply s = true)
    (herr : noSpiErr s j) (hlen : xs.length ≤ j) (hquant : j + 3 ≤ s.env.quantum) :
    runMessage op (setterProg o legal (xs.map RegTransfer.act) shadow) s = .next (answered o .ok 0
      { afterTransfers s xs with radio := shadow (afterTransfers s xs).radio }) := by
  obtain ⟨n, hn⟩ := Nat.exists_eq_add_of_le' (Nat.le_trans (Nat.add_le_add_right hlen 3) hquant)
  have hfuel : s.env.quantum = n + 1 + xs.length + 2 := by omega
  rw [runMessage_run hpc, hfuel, runActs_need rfl hconn, runActs_need rfl hlegal]
  exact runActs_transfers_reply [_, _] xs hroom fun k hk => herr k (Nat.lt_of_lt_of_le hk hlen)

end

/-! #### The transfers of the bodies -/

/-- The transfers of SET_SF (R126). -/
def sfTransfers (sf : Nat) : List RegTransfer :=
  [.standby, .read (fun r => r.modemConfig2), .write (fun r => r.modemConfig2) (fun v => mc2WithSf v sf),
   .const (fun r => r.detectionOptimize) (detOpt sf), .const (fun r => r.detectionThreshold) (detThr sf)] ++
  (if sf = 6 then [.read (fun r => r.modemConfig1), .write (fun r => r.modemConfig1) (fun v => v ||| 0x01)] else [])

/-- The transfers of SET_BW (R129). -/
def bwTransfers (k : Nat) : List RegTransfer :=
  [.standby, .read (fun r => r.modemConfig1), .write (fun r => r.modemConfig1) (fun v => mc1WithBw v k)]

/-- The transfers of SET_CR (R130). -/
def crTransfers (cr : Nat) : List RegTransfer :=
  [.standby, .read (fun r => r.modemConfig1), .write (fun r => r.modemConfig1) (fun v => mc1WithCr v cr)]

/-- The transfers of SET_TX_POWER (R131). -/
def powerTransfers (p : Nat) : List RegTransfer :=
  [.standby, .const (fun r => r.paDac) (paDacByte p), .const (fun r => r.ocp) (ocpByte p),
   .const (fun r => r.paConfig) (paConfigByte p)]

/-- The transfers of SET_SYNC_WORD (R132). -/
def syncTransfers (w : Nat) : List RegTransfer :=
  [.standby, .const (fun r => r.syncWord) (BitVec.ofNat 8 w)]

/-- The transfers of ApplyDefaults (R133). -/
def defaultTransfers : List RegTransfer :=
  powerTransfers 14 ++ sfTransfers 7 ++ bwTransfers 7 ++ crTransfers 5 ++
  [.read (fun r => r.modemConfig2), .write (fun r => r.modemConfig2) (fun v => v ||| 0x04),
   .read (fun r => r.modemConfig1), .write (fun r => r.modemConfig1) (fun v => v &&& 0xFE),
   .const (fun r => r.preambleMsb) 0x00, .const (fun r => r.preambleLsb) 0x08] ++
  syncTransfers 0x34

/-- The transfers of BEGIN's steps 9 to 14 (R120). -/
def beginTransfers (f : Nat) : List RegTransfer :=
  [.const (fun r => r.frfMsb) (frfMsb f), .const (fun r => r.frfMid) (frfMid f), .const (fun r => r.frfLsb) (frfLsb f),
   .const (fun r => r.fifoTxBase) 0x00, .const (fun r => r.fifoRxBase) 0x00,
   .read (fun r => r.lna), .write (fun r => r.lna) (fun v => v ||| 0x03), .const (fun r => r.modemConfig3) 0x04] ++
  defaultTransfers ++ [.standby]

/-- Each body is the transfers listed for it. -/
theorem sfBody_eq (sf : Nat) : sfBody sf = (sfTransfers sf).map RegTransfer.act := by
  unfold sfBody sfTransfers
  split <;> rfl

theorem bwBody_eq (k : Nat) : bwBody k = (bwTransfers k).map RegTransfer.act := rfl

theorem crBody_eq (cr : Nat) : crBody cr = (crTransfers cr).map RegTransfer.act := rfl

theorem powerBody_eq (p : Nat) : powerBody p = (powerTransfers p).map RegTransfer.act := rfl

theorem syncBody_eq (w : Nat) : syncBody w = (syncTransfers w).map RegTransfer.act := rfl

theorem applyDefaults_eq : applyDefaults = defaultTransfers.map RegTransfer.act := by
  simp only [applyDefaults, defaultTransfers, List.map_append, powerBody_eq, sfBody_eq, bwBody_eq, crBody_eq,
    syncBody_eq]
  rfl

theorem beginConfig_eq (f : Nat) : beginConfig f = (beginTransfers f).map RegTransfer.act := by
  simp only [beginConfig, beginTransfers, List.map_append, applyDefaults_eq]
  rfl

/-- The transfers of SET_SF with a factor other than 6. -/
theorem sfTransfers_of_ne {sf : Nat} (h : sf ≠ 6) :
    sfTransfers sf =
      [.standby, .read (fun r => r.modemConfig2), .write (fun r => r.modemConfig2) (fun v => mc2WithSf v sf),
       .const (fun r => r.detectionOptimize) 0xC3, .const (fun r => r.detectionThreshold) 0x0A] := by
  simp [sfTransfers, detOpt, detThr, h]

/-- The table of R131 up to its boundary. -/
theorem powerTransfers_low {p : Nat} (h : p ≤ 17) :
    powerTransfers p =
      [.standby, .const (fun r => r.paDac) 0x84, .const (fun r => r.ocp) 0x2B,
       .const (fun r => r.paConfig) (0x80 ||| BitVec.ofNat 8 (p - 2))] := by
  simp [powerTransfers, paDacByte, ocpByte, paConfigByte, h]

/-- The table of R131 past its boundary. -/
theorem powerTransfers_high {p : Nat} (h : 18 ≤ p) :
    powerTransfers p =
      [.standby, .const (fun r => r.paDac) 0x87, .const (fun r => r.ocp) 0x3F,
       .const (fun r => r.paConfig) (0x80 ||| BitVec.ofNat 8 (p - 5))] := by
  have hover : ¬ p ≤ 17 := by omega
  simp [powerTransfers, paDacByte, ocpByte, paConfigByte, hover]

end Sys2Proof.Machine

namespace Sys2Proof.Proofs

open Sys2Proof.Machine Sys2Proof.Safety

/-- Settles O13: the setter's stretch of transfers, by whether the factor is 6. -/
theorem setSfCompletes : Obligations.SetSfCompletes := by
  intro sf m s hpc hconn hroom herr hquant r
  refine ⟨fun hlo hhi => ?_, fun hsix => ?_⟩
  · have hlegal : operandsLegal s.cfg (.setSf sf) = true := by simp [operandsLegal, hhi, Nat.le_of_succ_le hlo]
    have hne : sf ≠ 6 := by omega
    rw [exec_eq_runMessage, instrProg, sfBody_eq, sfTransfers_of_ne hne,
      runMessage_setter hpc hconn hlegal hroom herr (by simp) hquant, shadowSf, if_neg hne]
    rfl
  · subst hsix
    have hlegal : operandsLegal s.cfg (.setSf 6) = true := rfl
    rw [exec_eq_runMessage, instrProg, sfBody_eq,
      runMessage_setter hpc hconn hlegal hroom herr (by simp [sfTransfers]) hquant]
    rfl

/-- Settles O14: each setter's stretch of transfers. -/
theorem setBwAndSetCrComplete : Obligations.SetBwAndSetCrComplete := by
  intro v m s hpc hconn hroom herr hquant r
  refine ⟨fun hhi => ?_, fun hlo hhi => ?_⟩
  · have hlegal : operandsLegal s.cfg (.setBw v) = true := decide_eq_true hhi
    rw [exec_eq_runMessage, instrProg, bwBody_eq,
      runMessage_setter hpc hconn hlegal hroom herr (by simp [bwTransfers]) hquant]
    rfl
  · have hlegal : operandsLegal s.cfg (.setCr v) = true := by simp [operandsLegal, hlo, hhi]
    rw [exec_eq_runMessage, instrProg, crBody_eq,
      runMessage_setter hpc hconn hlegal hroom herr (by simp [crTransfers]) hquant]
    rfl

/-- Settles O15: each setter's stretch of transfers, for SET_TX_POWER on either side of the table's boundary. -/
theorem setTxPowerAndSyncWordComplete : Obligations.SetTxPowerAndSyncWordComplete := by
  intro v m s hpc hconn hroom herr hquant r
  have hpower (hlo : 2 ≤ v) (hhi : v ≤ 20) : exec (.setTxPower v) s = .next (answered 0x06 .ok 0
      { afterTransfers s (powerTransfers v) with radio := { s.radio with txPwr := BitVec.ofNat 5 v } }) := by
    have hlegal : operandsLegal s.cfg (.setTxPower v) = true := by simp [operandsLegal, hlo, hhi]
    rw [exec_eq_runMessage, instrProg, powerBody_eq,
      runMessage_setter hpc hconn hlegal hroom herr (by simp [powerTransfers]) hquant]
    rfl
  refine ⟨fun hlo hhi => ?_, fun hlo hhi => ?_, fun hhi => ?_⟩
  · rw [hpower hlo (by omega), powerTransfers_low hhi]
    rfl
  · rw [hpower (by omega) hhi, powerTransfers_high hlo]
    rfl
  · have hlegal : operandsLegal s.cfg (.setSyncWord v) = true := decide_eq_true hhi
    rw [exec_eq_runMessage, instrProg, syncBody_eq,
      runMessage_setter hpc hconn hlegal hroom herr (by simp [syncTransfers]) hquant]
    rfl

/-- Settles O24: the wait is over, and the rest is the stretch of the 32 transfers and the reply. -/
theorem beginConfiguresAndConnects : Obligations.BeginConfiguresAndConnects := by
  intro f m s hpc hw hroom herr hquant r a frf
  obtain ⟨n, hn⟩ := Nat.exists_eq_add_of_le' hquant
  have hfuel : s.env.quantum = n + 1 + (beginTransfers f).length + 1 := hn
  rw [exec_eq_runMessage, runMessage_run hpc, hfuel, instrProg, beginConfig_eq, runActs_waited rfl hw,
    show 14 + 1 = (beginStart f).length + 1 from rfl, runActs_transfers_reply _ (beginTransfers f) hroom herr]
  -- The 32 transfers are added one by one: a `rfl` alone would go through the bus history before each of them anew.
  simp only [afterTransfers, beginTransfers, defaultTransfers, powerTransfers, sfTransfers_of_ne (sf := 7) (by decide),
    bwTransfers, crTransfers, syncTransfers, List.cons_append, List.nil_append, List.foldl_cons, List.foldl_nil,
    Stretch.add, List.countP_cons, List.countP_nil, isRead_read, isRead_write]
  rfl

end Sys2Proof.Proofs
end

/-! ### Frf -/

section

namespace Sys2Proof.Machine

/-- The low `n` bits of a number under the `m` bits above them are its low `m + n` bits. -/
theorem ofNat_append_ofNat (m n x : Nat) :
    BitVec.ofNat m (x / 2 ^ n) ++ BitVec.ofNat n x = BitVec.ofNat (m + n) x := by
  refine BitVec.eq_of_getLsbD_eq fun i hi => ?_
  rw [BitVec.getLsbD_append, BitVec.getLsbD_ofNat, BitVec.getLsbD_ofNat, BitVec.getLsbD_ofNat]
  split
  next hlow => simp only [hi, hlow]
  next hhigh =>
    have hm : i - n < m := by omega
    simp only [Nat.testBit_div_two_pow, Nat.sub_add_cancel (Nat.le_of_not_lt hhigh), hi, hm]

/-- Frf(f) is the nearest integer to f · 2^19 / F_XOSC (R124, R135). -/
theorem frf_round (f : Nat) : frf f * 1000000 ≤ f * 16384 + 500000 ∧ f * 16384 ≤ frf f * 1000000 + 500000 := by
  unfold frf
  omega

/-- Frf of a legal frequency fits in the three bytes that hold it (R124). -/
theorem frf_range {f : Nat} (h : freqOk f = true) : 0x224000 ≤ frf f ∧ frf f ≤ 0xFF0000 := by
  obtain ⟨hlo, hhi⟩ : 137000000 ≤ f ∧ f ≤ 1020000000 := by simpa [freqOk] using h
  unfold frf
  omega

/-- The three bytes of Frf(f), from the most significant, are its low 24 bits (R65). -/
theorem frf_bytes (f : Nat) : frfMsb f ++ frfMid f ++ frfLsb f = BitVec.ofNat 24 (frf f) := by
  have hhigh : frfMsb f ++ frfMid f = BitVec.ofNat 16 (frf f / 256) := by
    have hmsb : frf f / 65536 = frf f / 256 / 2 ^ 8 := by omega
    rw [frfMsb, frfMid, hmsb, ofNat_append_ofNat]
  rw [hhigh, frfLsb]
  exact ofNat_append_ofNat 16 8 (frf f)

end Sys2Proof.Machine

namespace Sys2Proof.Proofs

open Sys2Proof.Machine

/-- Settles O16: Frf rounds to the nearest, and its three bytes hold all of it. -/
theorem frfErrsByHalfAStep : Obligations.FrfErrsByHalfAStep := by
  intro f hf
  obtain ⟨hlo, hhi⟩ := frf_range hf
  obtain ⟨habove, hbelow⟩ := frf_round f
  refine ⟨by omega, hlo, hhi, ?_⟩
  rw [frf_bytes, BitVec.toNat_ofNat]
  omega

end Sys2Proof.Proofs
end

/-! ### The checks of the commands, the mode commands, the queries, the subscriptions and the RX-single timeout -/

section

namespace Sys2Proof.Machine

open Sys2Proof.Safety

/-- The RSSI of R149 and R174 is the integer difference, as a 16-bit two's-complement value. -/
theorem rssiDbm_eq_ofInt (raw : Byte) : rssiDbm raw = BitVec.ofInt 16 (raw.toNat - 157) := by
  rw [rssiDbm, ← BitVec.ofNat_toNat, Int.sub_eq_add_neg, BitVec.ofInt_add, BitVec.ofInt_natCast,
    BitVec.sub_eq_add_neg]
  rfl

/-- A subscriber's bit of x[HOST_SUBS] (R150). -/
theorem subBit_getLsbD {id j : Nat} (hj : j < 8) : ((1 : Byte) <<< id).getLsbD j = decide (j = id) := by
  have hpow : (1 : Byte) <<< id = BitVec.twoPow 8 id := (BitVec.twoPow_eq 8 id).symm
  rw [hpow, BitVec.getLsbD_twoPow]
  by_cases h : j = id
  · simp [h ▸ hj, h]
  · simp [h, Ne.symm h]

/-- The bits of x[HOST_SUBS] after SUBSCRIBE or UNSUBSCRIBE (R150, R151). -/
theorem setSub_getLsbD {id j : Nat} (on : Bool) (s : State) (hj : j < 8) :
    (setSub id on s).subs.host.getLsbD j = if j = id then on else s.subs.host.getLsbD j := by
  cases on
  case false =>
    have hclear : (setSub id false s).subs.host = s.subs.host &&& ~~~((1 : Byte) <<< id) := rfl
    rw [hclear, BitVec.getLsbD_and, BitVec.getLsbD_not, subBit_getLsbD hj]
    by_cases h : j = id <;> simp [h, hj]
  case true =>
    have hset : (setSub id true s).subs.host = s.subs.host ||| (1 : Byte) <<< id := rfl
    rw [hset, BitVec.getLsbD_or, subBit_getLsbD hj]
    by_cases h : j = id <;> simp [h]

section
variable {op : Option Byte} {prog : List Act} {m : Msg} {n k : Nat} {s : State}

/-- A reply with a value that is computed from the state (R148, R149), with room for it. -/
theorem runActs_replyValue {o : Byte} {st : Status} {value : State → Half}
    (ha : stepAt prog k = some (fun t => replyWith o st (value t) id t)) (hr : canReply s = true) :
    runActs op prog m (n + 1) k s = .next (answered o st (value s) s) :=
  runActs_done ha (by simp only [replyWith_spec, hr, if_true, id])

end

section
variable {i : Instr} {m : Msg} {s : State}

/-- The first check of a command fails (R153, R222). -/
theorem exec_firstCheck_fails {ok : State → Bool} {st : Status} (hpc : s.eng.pc = .run m 1)
    (hroom : canReply s = true) (hquant : 1 ≤ s.env.quantum)
    (ha : stepAt (instrProg s.cfg i) 1 = some (need ok i.opcode st)) (hfail : ok s = false) :
    exec i s = .next (answered i.opcode st 0 s) := by
  obtain ⟨n, hn⟩ := Nat.exists_eq_add_of_le' hquant
  rw [exec_eq_runMessage, runMessage_run hpc, hn, runActs_need_fails ha hfail hroom]

/-- The first of a command's two checks that fails, in the order of R153 (R222). -/
theorem exec_checks_fail {ok ok' : State → Bool} {st st₁ st₂ : Status} (hpc : s.eng.pc = .run m 1)
    (hroom : canReply s = true) (hquant : 2 ≤ s.env.quantum)
    (ha₁ : stepAt (instrProg s.cfg i) 1 = some (need ok i.opcode st₁))
    (ha₂ : stepAt (instrProg s.cfg i) 2 = some (need ok' i.opcode st₂))
    (hfails : (if ok s then (if ok' s then none else some st₂) else some st₁) = some st) :
    exec i s = .next (answered i.opcode st 0 s) := by
  split at hfails
  next hpass =>
    split at hfails <;> cases hfails
    next hfail =>
      obtain ⟨n, hn⟩ := Nat.exists_eq_add_of_le' hquant
      rw [exec_eq_runMessage, runMessage_run hpc, hn, runActs_need ha₁ hpass,
        runActs_need_fails ha₂ (Bool.eq_false_of_not_eq_true hfail) hroom]
  next hfail =>
    cases hfails
    exact exec_firstCheck_fails hpc hroom (Nat.le_of_succ_le hquant) ha₁ (Bool.eq_false_of_not_eq_true hfail)

/-- STANDBY and SLEEP, connected: one mode write and the reply (R141, R142). -/
theorem exec_modeWrite {md : Mode} (hpc : s.eng.pc = .run m 1) (hconn : s.eng.connected = true)
    (hroom : canReply s = true) (herr : noSpiErr s 1) (hquant : 3 ≤ s.env.quantum)
    (hprog : instrProg s.cfg i = [needConnected i.opcode, opModeAct md, replyWith i.opcode .ok 0 id]) :
    exec i s = .next (answered i.opcode .ok 0
      (setMode md (afterBus s [.write s.cfg.regmap.opMode (opModeByte md)]))) := by
  obtain ⟨n, hn⟩ := Nat.exists_eq_add_of_le' hquant
  rw [exec_eq_runMessage, runMessage_run hpc, hn, hprog, runActs_need rfl hconn,
    runActs_opMode rfl (noSpiErr_now herr (by decide)),
    runActs_reply rfl (canReply_later hroom (by simp) (by simp) (by simp)), id, id]

/-- GET_VERSION and GET_RSSI: one read, and the reply with a value made of the byte read (R148, R149). -/
theorem exec_query {reg : Config.RegMap → ChipAddr} {value : Byte → Half} (hpc : s.eng.pc = .run m 1)
    (hconn : s.eng.connected = true) (hroom : canReply s = true) (herr : noSpiErr s 1) (hquant : 3 ≤ s.env.quantum)
    (hprog : instrProg s.cfg i =
      [needConnected i.opcode, readAct reg setV, fun t => replyWith i.opcode .ok (value t.work.v) id t]) :
    exec i s = .next (answered i.opcode .ok (value (answer s 0))
      (setV (answer s 0) (afterBus s [.read (reg s.cfg.regmap) (answer s 0)]))) := by
  obtain ⟨n, hn⟩ := Nat.exists_eq_add_of_le' hquant
  rw [exec_eq_runMessage, runMessage_run hpc, hn, hprog, runActs_need rfl hconn,
    runActs_read rfl (noSpiErr_now herr (by decide)) (chipAnswer_spec s),
    runActs_replyValue (value := fun t => value t.work.v) rfl
      (canReply_later hroom (by simp) (by simp) (by simp)), setV_work]

/-- A command whose one action is the reply (R150, R151). -/
theorem exec_replyOnly {upd : State → State} (hpc : s.eng.pc = .run m 1) (hroom : canReply s = true)
    (hquant : 1 ≤ s.env.quantum) (hprog : instrProg s.cfg i = [replyWith i.opcode .ok 0 upd]) :
    exec i s = .next (answered i.opcode .ok 0 (upd s)) := by
  obtain ⟨n, hn⟩ := Nat.exists_eq_add_of_le' hquant
  rw [exec_eq_runMessage, runMessage_run hpc, hn, hprog, runActs_reply rfl hroom]

end

end Sys2Proof.Machine

namespace Sys2Proof.Proofs

open Sys2Proof.Machine Sys2Proof.Safety

/-- Settles O8: by the command's checks, which are two, one or none. -/
theorem failedCheckOnlyAnswers : Obligations.FailedCheckOnlyAnswers := by
  intro i m s st hpc hfails hroom hquant
  cases i
  case disconnect | subscribe | unsubscribe | echoStop => cases hfails
  case standby | sleep | hardwareReset | getRssi | getVersion =>
    simp only [checkFailure, needsChip, operandsLegal, if_true] at hfails
    split at hfails <;> cases hfails
    next hconn =>
      exact exec_firstCheck_fails hpc hroom (Nat.le_of_succ_le hquant) rfl (Bool.eq_false_of_not_eq_true hconn)
  case begin | echoStart =>
    -- These two pass their first check where its flag is down.
    refine exec_checks_fail hpc hroom hquant rfl rfl ?_
    simpa only [checkFailure, Bool.not_eq_true', ← Bool.not_eq_true, ite_not] using hfails
  case setFrequency | setSf | setBw | setCr | setTxPower | setSyncWord | transmit | receiveMode =>
    exact exec_checks_fail hpc hroom hquant rfl rfl hfails

/-- Settles O21: each query is the read and the reply with its value. -/
theorem queriesComplete : Obligations.QueriesComplete := by
  intro m s hpc hconn hroom herr hquant
  rw [BitVec.ofNat_toNat, ← rssiDbm_eq_ofInt]
  exact ⟨exec_query hpc hconn hroom herr hquant (value := fun v => v.setWidth 16) rfl,
    exec_query hpc hconn hroom herr hquant (value := rssiDbm) rfl⟩

/-- Settles O17: the failed check, or the mode write. -/
theorem standbyAndSleepComplete : Obligations.StandbyAndSleepComplete := by
  intro m s hpc hroom herr hquant
  have hone : 1 ≤ s.env.quantum := by omega
  refine ⟨fun hconn => ⟨?_, ?_⟩, fun hconn => ⟨?_, ?_⟩⟩
  · exact exec_firstCheck_fails hpc hroom hone rfl hconn
  · exact exec_firstCheck_fails hpc hroom hone rfl hconn
  · exact exec_modeWrite hpc hconn hroom herr hquant rfl
  · exact exec_modeWrite hpc hconn hroom herr hquant rfl

/-- Settles O22: the two bytes are those that `setSub` makes. -/
theorem subscriptionCompletes : Obligations.SubscriptionCompletes := by
  intro id m s _ hpc hroom hquant
  exact ⟨(setSub id true s).subs.host, (setSub id false s).subs.host, fun _ => setSub_getLsbD true s,
    fun _ => setSub_getLsbD false s, exec_replyOnly hpc hroom hquant (upd := setSub id true) rfl,
    exec_replyOnly hpc hroom hquant (upd := setSub id false) rfl⟩

/-- Settles O34: the token's one action, by x[RXS_FIRED]. -/
theorem rxTimeoutReturnsToStandby : Obligations.RxTimeoutReturnsToStandby := by
  intro s hpc hquant
  obtain ⟨n, hn⟩ := Nat.exists_eq_add_of_le' hquant
  rw [runMsg_eq_runMessage, runMessage_run hpc, hn]
  refine ⟨fun hfired => ?_, fun hfired herr => ?_⟩
  · have hstale : rxTimeoutAct s = .done s := by rw [rxTimeoutAct_spec, hfired]; rfl
    exact runActs_done rfl hstale
  · have hnow : spiErrNow s = false := noSpiErr_now herr (by decide)
    have hend : rxTimeoutAct s =
        .done (setMode .standby (afterBus (clearFired s) [.write s.cfg.regmap.opMode (opModeByte .standby)])) := by
      rw [rxTimeoutAct_spec, hfired, hnow]
      rfl
    exact runActs_done rfl hend

end Sys2Proof.Proofs
end

/-! ### Emit -/

section

namespace Sys2Proof.Machine

open Sys2Proof.Safety

/-! #### What an event leaves alone -/

/-- The states agree but for the event queues and their overflow flags. -/
abbrev SameButEvents (s t : State) : Prop :=
  t = { s with
        evtq := t.evtq
        eq := t.eq
        host := { s.host with evtOvf := t.host.evtOvf, echoEvtOvf := t.host.echoEvtOvf } }

theorem SameButEvents.trans {s t u : State} (h : SameButEvents s t) (h' : SameButEvents t u) : SameButEvents s u := by
  unfold SameButEvents at h'
  rw [h] at h'
  exact h'

section
variable (e : Event) (s : State)

theorem sameButEvents_postEvt : SameButEvents s (postEvt e s) := by
  rcases postEvt_cases e s with ⟨-, h⟩ | ⟨-, -, h⟩ | ⟨-, -, h⟩ <;> rw [h]

theorem sameButEvents_postEq : SameButEvents s (postEq e s) := by
  rcases postEq_cases e s with ⟨-, -, h⟩ | ⟨-, -, h⟩ | ⟨-, -, h⟩ | ⟨-, -, h⟩ <;> rw [h]

@[simp] theorem postEvt_echoEvtOvf : (postEvt e s).host.echoEvtOvf = s.host.echoEvtOvf := by
  rcases postEvt_cases e s with ⟨-, h⟩ | ⟨-, -, h⟩ | ⟨-, -, h⟩ <;> rw [h]

@[simp] theorem postEq_evtOvf : (postEq e s).host.evtOvf = s.host.evtOvf := by
  rcases postEq_cases e s with ⟨-, -, h⟩ | ⟨-, -, h⟩ | ⟨-, -, h⟩ | ⟨-, -, h⟩ <;> rw [h]

end

section
variable {e : Event} {s : State}

/-! #### The host's copy (R175) -/

theorem postEvt_of_unsubscribed (hsub : s.subs.host = 0) : postEvt e s = s := if_pos hsub

theorem postEvt_of_room (hsub : s.subs.host ≠ 0) (hroom : s.evtq.length < s.cfg.evtqDepth) :
    postEvt e s = { s with evtq := s.evtq ++ [⟨e, s.subs.host⟩] } :=
  (if_neg hsub).trans (if_pos hroom)

theorem postEvt_of_full (hsub : s.subs.host ≠ 0) (hfull : s.cfg.evtqDepth ≤ s.evtq.length) :
    postEvt e s = { s with host := { s.host with evtOvf := true } } :=
  (if_neg hsub).trans (if_neg (Nat.not_lt.mpr hfull))

/-! #### The sequencer's copy (R197) -/

theorem postEq_frame_of_room (hk : e.kind = .rxFrame) (hroom : s.eq.length + 2 ≤ s.cfg.eqDepth) :
    postEq e s = { s with eq := s.eq ++ [⟨.rxFrame, s.ectl.session, e.bytes⟩] } := by
  rcases postEq_cases e s with ⟨-, -, h⟩ | ⟨-, hfull, -⟩ | ⟨hne, -, -⟩ | ⟨hne, -, -⟩
  · exact h
  · exact absurd hroom (Nat.not_le.mpr hfull)
  · exact absurd hk hne
  · exact absurd hk hne

theorem postEq_frame_of_full (hk : e.kind = .rxFrame) (hfull : s.cfg.eqDepth < s.eq.length + 2) :
    postEq e s = { s with host := { s.host with echoEvtOvf := true } } := by
  rcases postEq_cases e s with ⟨-, hroom, -⟩ | ⟨-, -, h⟩ | ⟨hne, -, -⟩ | ⟨hne, -, -⟩
  · exact absurd hroom (Nat.not_le.mpr hfull)
  · exact h
  · exact absurd hk hne
  · exact absurd hk hne

/-- A TX event joins EQ, whose newest TX entry makes way for it where EQ is full. -/
theorem postEq_txEvent (hk : e.kind ≠ .rxFrame) :
    postEq e s = { s with
      eq := (if s.eq.length < s.cfg.eqDepth then s.eq else dropNewestTx s.eq) ++ [⟨e.kind, s.ectl.session, []⟩] } := by
  rcases postEq_cases e s with ⟨hf, -, -⟩ | ⟨hf, -, -⟩ | ⟨-, hroom, h⟩ | ⟨-, hfull, h⟩
  · exact absurd hf hk
  · exact absurd hf hk
  · rw [h, if_pos hroom]
  · rw [h, if_neg (Nat.not_lt.mpr hfull)]

/-- The newest TX entry of a queue is the one that only frames follow. -/
theorem dropNewestTx_append {x : EqEntry} {q : List EqEntry} (hx : x.kind ≠ .rxFrame)
    (hq : ∀ y ∈ q, y.kind = .rxFrame) (l : List EqEntry) : dropNewestTx (l ++ x :: q) = l ++ q := by
  induction l with
  | nil =>
    have hnone : ¬ q.any (fun y => y.kind != .rxFrame) = true := by simpa using hq
    rw [List.nil_append, dropNewestTx, if_neg hnone, if_pos (bne_iff_ne.mpr hx), List.nil_append]
  | cons y l ih =>
    have hlater : (l ++ x :: q).any (fun y => y.kind != .rxFrame) = true :=
      List.any_eq_true.mpr ⟨x, by simp, bne_iff_ne.mpr hx⟩
    rw [List.cons_append, dropNewestTx, if_pos hlater, ih, List.cons_append]

/-! #### Both copies (R175) -/

theorem emit_of_unsubscribed (hecho : s.subs.echo = false) : emit e s = postEvt e s := by
  rw [emit_spec, hecho]
  rfl

theorem emit_of_subscribed (hecho : s.subs.echo = true) : emit e s = postEq e (postEvt e s) := by
  rw [emit_spec, hecho]
  rfl

end

section
variable (e : Event) (s : State)

theorem emit_evtq_eq_postEvt : (emit e s).evtq = (postEvt e s).evtq := by
  rw [emit_spec]
  split <;> simp

theorem emit_evtOvf_eq_postEvt : (emit e s).host.evtOvf = (postEvt e s).host.evtOvf := by
  rw [emit_spec]
  split <;> simp

theorem sameButEvents_emit : SameButEvents s (emit e s) := by
  cases hecho : s.subs.echo
  · rw [emit_of_unsubscribed hecho]
    exact sameButEvents_postEvt e s
  · rw [emit_of_subscribed hecho]
    exact (sameButEvents_postEvt e s).trans (sameButEvents_postEq e _)

end

end Sys2Proof.Machine

namespace Sys2Proof.Proofs

open Sys2Proof.Machine Sys2Proof.Safety

/-- Settles O35: the host's clauses are those of its copy, the sequencer's those of PostEQ after it. -/
theorem emitDelivers : Obligations.EmitDelivers := by
  intro e s t
  have hevtq : t.evtq = (postEvt e s).evtq := emit_evtq_eq_postEvt e s
  have hovf : t.host.evtOvf = (postEvt e s).host.evtOvf := emit_evtOvf_eq_postEvt e s
  have hpost (hecho : s.subs.echo = true) : t = postEq e (postEvt e s) := emit_of_subscribed hecho
  refine ⟨sameButEvents_emit e s, fun hsub => ?_, fun hsub hroom => ?_, fun hsub hfull => ?_, fun hecho => ?_,
    fun hecho hk hroom => ?_, fun hecho hk hfull => ?_, fun hecho hk => ⟨?_, fun hroom => ?_, fun hfull => ?_⟩⟩
  · rw [hevtq, hovf, postEvt_of_unsubscribed hsub]
    exact ⟨rfl, rfl⟩
  · rw [hevtq, hovf, postEvt_of_room hsub hroom]
    exact ⟨rfl, rfl⟩
  · rw [hevtq, hovf, postEvt_of_full hsub hfull]
    exact ⟨rfl, rfl⟩
  · have ht : t = postEvt e s := emit_of_unsubscribed hecho
    rw [ht]
    exact ⟨postEvt_eq e s, postEvt_echoEvtOvf e s⟩
  · rw [hpost hecho, postEq_frame_of_room hk (by simpa using hroom)]
    simp
  · rw [hpost hecho, postEq_frame_of_full hk (by simpa using hfull)]
    simp
  · rw [hpost hecho, postEq_txEvent hk]
    simp
  · rw [hpost hecho, postEq_txEvent hk]
    simp [hroom]
  · intro l x q hq hx hframes
    rw [hpost hecho, postEq_txEvent hk, postEvt_eq, postEvt_cfg, postEvt_ectl, if_neg (Nat.not_lt.mpr hfull), hq,
      dropNewestTx_append hx hframes]

end Sys2Proof.Proofs
end

/-! ### Runs through a repeated action, and TRANSMIT -/

section

namespace Sys2Proof.Machine

open Sys2Proof.Safety

/-! #### Later in a run -/

section
variable {s t : State} {j k n r : Nat}

/-- The transfers that are still to come do not fail either. -/
theorem noSpiErr_of_advance (herr : noSpiErr s n) (hcfg : t.cfg = s.cfg) (henv : t.env = s.env.advance j r)
    (hle : j + k ≤ n) : noSpiErr t k := by
  intro i hi
  simpa [hcfg, henv, Nat.add_assoc] using herr (j + i) (by omega)

/-- The answers that are still to come. -/
theorem answer_of_advance (henv : t.env = s.env.advance j r) (i : Nat) : answer t i = answer s (r + i) := by
  simp [answer, henv, Nat.add_assoc]

theorem noSpiErr_of_le (herr : noSpiErr s n) (hle : k ≤ n) : noSpiErr s k := fun i hi => herr i (hi.trans_le hle)

end

/-- A bus history made of one transfer for each round of a repeated action. -/
theorem countP_map_range {p : BusEvent → Bool} {f : Nat → BusEvent} (hp : ∀ i, p (f i) = true) (j : Nat) :
    ((List.range j).map f).countP p = j := by
  have hall : ∀ e ∈ (List.range j).map f, p e = true := by simp [hp]
  rw [List.countP_eq_length.mpr hall, List.length_map, List.length_range]

/-- A bus history made of entries of another kind. -/
theorem countP_map_range_none {p : BusEvent → Bool} {f : Nat → BusEvent} (hp : ∀ i, p (f i) = false) (j : Nat) :
    ((List.range j).map f).countP p = 0 := by
  simp [List.countP_eq_zero, hp]

/-- The environment after some entries of the bus history. -/
theorem afterBus_env (s : State) (l : List BusEvent) :
    (afterBus s l).env = s.env.advance (l.countP isTransfer) (l.countP isRead) := rfl

/-- A change of x[W_I] and transfers do not depend on each other. -/
theorem afterBus_setI (i : BitVec 9) (s : State) (l : List BusEvent) :
    afterBus (setI i s) l = setI i (afterBus s l) := rfl

/-- x[PC] moved to where it is. -/
theorem setPc_self {p : Pc} {s : State} (h : s.eng.pc = p) : setPc p s = s := by
  subst h
  rfl

/-- A flag that an IRQ value has (R53). -/
theorem irqHas_of_ne {v flag : Byte} (h : v &&& flag ≠ 0) : irqHas v flag = true := bne_iff_ne.mpr h

/-- A flag that an IRQ value does not have (R53). -/
theorem irqHas_of_eq {v flag : Byte} (h : v &&& flag = 0) : irqHas v flag = false := by
  rw [irqHas, h]
  rfl

section
variable {op : Option Byte} {prog : List Act} {m : Msg} {k : Nat}

/-- A run through an action that repeats itself for `c` rounds; `f j` is the state after `j` of them. -/
theorem runActs_loop {a : Act} {f : Nat → State} {c : Nat} (n : Nat) (ha : stepAt prog k = some a) (hc : 1 ≤ c)
    (hround : ∀ j, j < c → a (f j) = if j + 1 < c then .goto k (f (j + 1)) else .step (f (j + 1))) :
    runActs op prog m (n + c) k (f 0) = runActs op prog m n (k + 1) (f c) := by
  have hrest (d : Nat) : ∀ j, j + (d + 1) = c →
      runActs op prog m (n + (d + 1)) k (f j) = runActs op prog m n (k + 1) (f c) := by
    induction d with
    | zero =>
      intro j hj
      have hlast := hround j (by omega)
      rw [if_neg (by omega)] at hlast
      rw [runActs_step ha hlast, hj]
    | succ d ih =>
      intro j hj
      have hnext := hround j (by omega)
      rw [if_pos (by omega)] at hnext
      rw [← Nat.add_assoc n, runActs_goto ha hnext, ih (j + 1) (by omega)]
  obtain ⟨d, hd⟩ := Nat.exists_eq_add_of_le' hc
  rw [hd]
  exact hd ▸ hrest d 0 (by omega)

end

/-! #### The payload of TRANSMIT -/

/-- One payload byte, case by case (R162). -/
theorem fifoAct_spec (n : Nat) (s : State) :
    fifoAct n s =
      let t := setI (s.work.i + 1) (afterBus s [.write s.cfg.regmap.fifo (payloadByte s s.work.i.toNat)])
      if spiErrNow s then .ioErr (afterBus s [.write s.cfg.regmap.fifo (payloadByte s s.work.i.toNat)])
      else if s.work.i.toNat + 1 < n then .goto 5 t
      else .step t := rfl

/-- The first `j` payload bytes written to the FIFO (R162). -/
def payloadSent (s : State) (j : Nat) : State :=
  setI (BitVec.ofNat 9 j)
    (afterBus s ((List.range j).map fun i => .write s.cfg.regmap.fifo (payloadByte s i)))

/-- One more payload byte. -/
theorem payloadSent_succ (s : State) (j : Nat) :
    payloadSent s (j + 1) =
      setI (BitVec.ofNat 9 j + 1) (afterBus (payloadSent s j) [.write s.cfg.regmap.fifo (payloadByte s j)]) := by
  rw [payloadSent, payloadSent, List.range_succ, List.map_append, ← afterBus_afterBus, BitVec.ofNat_add]
  rfl

@[simp] theorem payloadSent_cfg (s : State) (j : Nat) : (payloadSent s j).cfg = s.cfg := rfl

@[simp] theorem payloadSent_env (s : State) (j : Nat) : (payloadSent s j).env = s.env.advance j 0 := by
  rw [payloadSent, setI_env, afterBus_env, countP_map_range fun _ => rfl, countP_map_range_none fun _ => rfl]

/-- A round of the FIFO writes: the next payload byte is written. -/
theorem fifoAct_payloadSent {n j : Nat} {s : State} (herr : noSpiErr s n) (hn : n ≤ 255) (hj : j < n) :
    fifoAct n (payloadSent s j) =
      if j + 1 < n then .goto 5 (payloadSent s (j + 1)) else .step (payloadSent s (j + 1)) := by
  have hi : (payloadSent s j).work.i.toNat = j := Nat.mod_eq_of_lt (show j < 512 by omega)
  have hnow : spiErrNow (payloadSent s j) = false := noSpiErr_now
    (noSpiErr_of_advance (k := 1) herr (payloadSent_cfg s j) (payloadSent_env s j) hj) (by decide)
  simp only [fifoAct_spec, hi, hnow, payloadSent_succ]
  rfl

section
variable {op : Option Byte} {m : Msg} {n q : Nat} {s : State}

/-- The FIFO writes of a TRANSMIT: one for each payload byte in increasing order (R160 step 5). -/
theorem runActs_payload (herr : noSpiErr s n) (hlo : 1 ≤ n) (hhi : n ≤ 255) (hi : s.work.i = 0) :
    runActs op (transmitProg n) m (q + n) 5 s = runActs op (transmitProg n) m q 6 (payloadSent s n) := by
  have hstart : payloadSent s 0 = s := by
    have hzero : BitVec.ofNat 9 0 = s.work.i := hi.symm
    rw [payloadSent, List.range_zero, List.map_nil, afterBus_nil, hzero]
    rfl
  have hloop := runActs_loop (op := op) (prog := transmitProg n) (m := m) (f := payloadSent s) q rfl hlo
    fun j hj => fifoAct_payloadSent herr hhi hj
  rwa [hstart] at hloop

/-- A TRANSMIT before its payload: Standby, the FIFO pointer and x[W_I] written (R160 steps 3, 4). -/
def payloadReady (s : State) : State :=
  setI 0 (setMode .standby (afterBus s [.write s.cfg.regmap.opMode 0x81, .write s.cfg.regmap.fifoAddrPtr 0x00]))

@[simp] theorem payloadReady_cfg (s : State) : (payloadReady s).cfg = s.cfg := rfl

@[simp] theorem payloadReady_env (s : State) : (payloadReady s).env = s.env.advance 2 0 := rfl

/-- The payload after its start, with the bytes as they were before it (R160, R162). -/
theorem payloadSent_payloadReady (s : State) (n : Nat) :
    payloadSent (payloadReady s) n = setI (BitVec.ofNat 9 n) (setMode .standby (afterBus s
      ([BusEvent.write s.cfg.regmap.opMode 0x81, BusEvent.write s.cfg.regmap.fifoAddrPtr 0x00] ++
        (List.range n).map fun i => BusEvent.write s.cfg.regmap.fifo (payloadByte s i)))) := by
  rw [← afterBus_afterBus]
  rfl

/-- Before the payload: the checks, Standby and the FIFO pointer (R160 steps 1 to 4). -/
theorem runActs_transmit_start (hconn : s.eng.connected = true) (hlo : 1 ≤ n) (hhi : n ≤ 255) (herr : noSpiErr s 2) :
    runActs op (transmitProg n) m (q + 4) 1 s = runActs op (transmitProg n) m q 5 (payloadReady s) := by
  have hlegal : operandsLegal s.cfg (.transmit n) = true := by simp [operandsLegal, hlo, hhi]
  rw [runActs_need rfl hconn, runActs_need rfl hlegal, runActs_opMode rfl (noSpiErr_now herr (by decide)),
    runActs_write rfl (spiErrNow_later herr 1 (by decide) (by simp) (by simp) (by simp)), id, afterBus_setMode,
    afterBus_afterBus]
  rfl

/-- After the payload: its length, the IRQ clear and TX mode, and the wait holds (R160 steps 6 to 8, R163). -/
theorem runActs_transmit_enterWait (herr : noSpiErr s 3) :
    runActs op (transmitProg n) m (q + 3) 6 s = .next (setPc (.run m 9) (enterTxWait (setMode .tx
      (afterBus s [.write s.cfg.regmap.payloadLength (BitVec.ofNat 8 n), .write s.cfg.regmap.irqFlags 0xFF,
        .write s.cfg.regmap.opMode 0x83])))) := by
  have hhold (t : State) : txPollAct (enterTxWait t) = .hold := rfl
  rw [runActs_write rfl (noSpiErr_now herr (by decide)),
    runActs_write rfl (spiErrNow_later herr 1 (by decide) (by simp) (by simp) (by simp)),
    runActs_opMode rfl (spiErrNow_later herr 2 (by decide) (by simp) (by simp) (by simp [List.countP_cons])),
    runActs_hold rfl (hhold _), id, id, afterBus_afterBus, afterBus_afterBus]
  rfl

end

/-! #### The TX wait -/

section
variable {op : Option Byte} {m : Msg} {n q : Nat} {s : State}

/-- A poll of the TX wait, its answer `v` taken (R164). -/
def polled (v : Byte) (s : State) : State := setIrq v (afterBus (clearTriggers s) [.read s.cfg.regmap.irqFlags v])

@[simp] theorem polled_cfg (v : Byte) (s : State) : (polled v s).cfg = s.cfg := rfl

@[simp] theorem polled_env (v : Byte) (s : State) : (polled v s).env = s.env.advance 1 1 := rfl

@[simp] theorem polled_rspq (v : Byte) (s : State) : (polled v s).rspq = s.rspq := rfl

@[simp] theorem polled_eng (v : Byte) (s : State) : (polled v s).eng = s.eng := rfl

/-- The transfers that follow a poll. -/
theorem afterBus_polled (v : Byte) (s : State) (l : List BusEvent) :
    afterBus (polled v s) l = setIrq v (clearTriggers (afterBus s ([.read s.cfg.regmap.irqFlags v] ++ l))) := by
  rw [← afterBus_afterBus]
  rfl

/-- A poll that is triggered and does not fail goes where its answer and the tick count say (R164). -/
theorem txPollAct_polls (htrig : s.tx.pollReq = true ∨ s.tx.edge = true) (hok : spiErrNow s = false) :
    txPollAct s =
      if irqHas (answer s 0) irqTxDone then .goto 10 (polled (answer s 0) s)
      else if 5000 ≤ s.tx.ticks.toNat then .goto 13 (polled (answer s 0) s)
      else .goto 9 (polled (answer s 0) s) := by
  have htrue : (s.tx.pollReq || s.tx.edge) = true := by simpa using htrig
  rw [txPollAct_spec, if_pos htrue]
  simp only [hok]
  rfl

/-- With no trigger the TX wait holds (R164). -/
theorem txPollAct_holds (hpoll : s.tx.pollReq = false) (hedge : s.tx.edge = false) : txPollAct s = .hold := by
  rw [txPollAct_spec, hpoll, hedge]
  rfl

/-- The Standby write that ends the TX wait, with x[TXP] cleared (R165, R166). -/
def txWaitEnded (s : State) : State := leaveTxWait (setMode .standby (afterBus s [.write s.cfg.regmap.opMode 0x81]))

/-- The end of the TX wait: Standby, and the reply with its TX event (R165, R166). -/
theorem runActs_endTxWait {prog : List Act} {k : Nat} {st : Status} {kind : EventKind}
    (hstandby : stepAt prog k = some (opModeAct .standby leaveTxWait))
    (hreply : stepAt prog (k + 1) = some (txReplyAct st kind)) (hok : spiErrNow s = false) (hroom : canReply s = true) :
    runActs op prog m (q + 2) k s = .next
      (answered 0x08 st 0 (emit (txEvent kind st (fromEcho (txWaitEnded s))) (txWaitEnded s))) := by
  have hend : txReplyAct st kind (txWaitEnded s) = .done
      (respond 0x08 st 0 (emit (txEvent kind st (fromEcho (txWaitEnded s))) (txWaitEnded s))) := if_pos hroom
  rw [runActs_opMode hstandby hok]
  exact runActs_done hreply hend

end

end Sys2Proof.Machine

namespace Sys2Proof.Proofs

open Sys2Proof.Machine Sys2Proof.Safety

/-- Settles O26: the start, the payload's FIFO writes, and the entry of the wait. -/
theorem transmitSetsUpAndWaits : Obligations.TransmitSetsUpAndWaits := by
  intro n m s hpc hconn hlo hhi herr hquant r byte
  obtain ⟨q, hq⟩ := Nat.exists_eq_add_of_le' hquant
  have hfuel : s.env.quantum = q + 3 + n + 4 := by omega
  have hstart : noSpiErr s 2 := noSpiErr_of_le herr (by omega)
  have hpayload : noSpiErr (payloadReady s) n :=
    noSpiErr_of_advance herr (payloadReady_cfg s) (payloadReady_env s) (by omega)
  have hentry : noSpiErr (payloadSent (payloadReady s) n) 3 :=
    noSpiErr_of_advance herr (by simp) (j := 2 + n) (r := 0) (by simp) (by omega)
  rw [exec_eq_runMessage, runMessage_run hpc, hfuel, instrProg, runActs_transmit_start hconn hlo hhi hstart,
    runActs_payload hpayload hlo hhi rfl, runActs_transmit_enterWait hentry, payloadSent_payloadReady,
    afterBus_setI, afterBus_setMode, afterBus_afterBus]
  rfl

/-- Settles O27: the poll, the clear, Standby, and the reply with its event. -/
theorem transmitEndsOk : Obligations.TransmitEndsOk := by
  intro n m s hpc htrig hdone herr hroom hquant
  obtain ⟨q, hq⟩ := Nat.exists_eq_add_of_le' hquant
  have hflag : irqHas (answer s 0) irqTxDone = true := irqHas_of_ne hdone
  have hpoll : txPollAct s = .goto 10 (polled (answer s 0) s) := by
    rw [txPollAct_polls htrig (noSpiErr_now herr (by decide)), if_pos hflag]
  rw [exec_eq_runMessage, runMessage_run hpc, hq, instrProg, runActs_goto (a := txPollAct) rfl hpoll,
    runActs_write rfl (spiErrNow_later herr 1 (by decide) (by simp) (by simp) (by simp)),
    runActs_endTxWait rfl rfl (spiErrNow_later herr 2 (by decide) (by simp) (by simp) (by simp))
      (canReply_later hroom (by simp) (by simp) (by simp)), txWaitEnded, id, afterBus_afterBus, afterBus_polled]
  rfl

/-- Settles O28: the hold, the poll that waits again, and the poll that times out. -/
theorem transmitPollsAndTimesOut : Obligations.TransmitPollsAndTimesOut := by
  intro n m s hpc hquant
  obtain ⟨q, hq⟩ := Nat.exists_eq_add_of_le' hquant
  have hflag (hdone : answer s 0 &&& 0x08 = 0) : ¬ irqHas (answer s 0) irqTxDone = true :=
    Bool.eq_false_iff.mp (irqHas_of_eq hdone)
  rw [exec_eq_runMessage, runMessage_run hpc, hq, instrProg]
  refine ⟨fun hpoll hedge => ?_, fun htrig hdone hticks herr => ?_, fun htrig hdone hticks herr hroom => ?_⟩
  · rw [runActs_hold rfl (txPollAct_holds hpoll hedge), setPc_self hpc]
  · have hpoll : txPollAct s = .goto 9 (polled (answer s 0) s) := by
      rw [txPollAct_polls htrig (noSpiErr_now herr (by decide)), if_neg (hflag hdone), if_neg (Nat.not_le.mpr hticks)]
    rw [runActs_goto (a := txPollAct) rfl hpoll, runActs_hold rfl (txPollAct_holds rfl rfl),
      setPc_self (s := polled _ s) hpc]
    rfl
  · have hpoll : txPollAct s = .goto 13 (polled (answer s 0) s) := by
      rw [txPollAct_polls htrig (noSpiErr_now herr (by decide)), if_neg (hflag hdone), if_pos hticks]
    rw [runActs_goto (a := txPollAct) rfl hpoll,
      runActs_endTxWait rfl rfl (spiErrNow_later herr 1 (by decide) (by simp) (by simp) (by simp))
        (canReply_later hroom (by simp) (by simp) (by simp)), txWaitEnded, afterBus_polled]
    rfl

end Sys2Proof.Proofs
end

/-! ### DIO0 dispatch -/

section

namespace Sys2Proof.Machine

open Sys2Proof.Safety

/-! #### The states of a dispatch: working registers and the bus history -/

/-- A change of the working registers and transfers do not depend on each other. -/
theorem afterBus_setWork (w : Work) (s : State) (l : List BusEvent) :
    afterBus (setWork w s) l = setWork w (afterBus s l) := rfl

@[simp] theorem setWork_env (w : Work) (s : State) : (setWork w s).env = s.env := rfl

/-- Transfers one after the other. -/
theorem afterBus_cons (s : State) (e e' : BusEvent) (l : List BusEvent) :
    afterBus s (e :: e' :: l) = afterBus (afterBus s [e]) (e' :: l) :=
  (afterBus_afterBus s [e] (e' :: l)).symm

/-- The IRQ flags read, with the answer `v` (R170 step E2). -/
def flagsRead (v : Byte) (s : State) : State :=
  setWork { s.work with irq := v } (afterBus s [.read s.cfg.regmap.irqFlags v])

/-- The frame's address and length read, with the answers `a` and `n` (R172 steps X1 to X3). -/
def headerRead (a n : Byte) (s : State) : State :=
  setWork { s.work with a := a, n := n }
    (afterBus s [.read s.cfg.regmap.fifoRxCurrent a, .write s.cfg.regmap.fifoAddrPtr a, .read s.cfg.regmap.rxNbBytes n])

/-- The first `j` bytes of the frame read, with the answers `b` (R172 step X5). -/
def bytesRead (b : Nat → Byte) (s : State) (j : Nat) : State :=
  setWork { s.work with i := BitVec.ofNat 9 j, rxb := (List.range j).map b ++ s.work.rxb.drop j }
    (afterBus s ((List.range j).map fun i => .read s.cfg.regmap.fifo (b i)))

/-- RSSI and SNR read (R172 steps X6, X7). -/
def signalRead (rssi snr : Byte) (s : State) : State :=
  setWork { s.work with rssi := rssi, snr := snr }
    (afterBus s [.read s.cfg.regmap.pktRssi rssi, .read s.cfg.regmap.pktSnr snr])

@[simp] theorem flagsRead_cfg (v : Byte) (s : State) : (flagsRead v s).cfg = s.cfg := rfl

@[simp] theorem flagsRead_env (v : Byte) (s : State) : (flagsRead v s).env = s.env.advance 1 1 := rfl

@[simp] theorem headerRead_cfg (a n : Byte) (s : State) : (headerRead a n s).cfg = s.cfg := rfl

@[simp] theorem headerRead_env (a n : Byte) (s : State) : (headerRead a n s).env = s.env.advance 3 2 := rfl

@[simp] theorem bytesRead_cfg (b : Nat → Byte) (s : State) (j : Nat) : (bytesRead b s j).cfg = s.cfg := rfl

@[simp] theorem bytesRead_env (b : Nat → Byte) (s : State) (j : Nat) : (bytesRead b s j).env = s.env.advance j j := by
  rw [bytesRead, setWork_env, afterBus_env, countP_map_range fun _ => rfl, countP_map_range fun _ => rfl]

@[simp] theorem signalRead_cfg (rssi snr : Byte) (s : State) : (signalRead rssi snr s).cfg = s.cfg := rfl

@[simp] theorem signalRead_env (rssi snr : Byte) (s : State) : (signalRead rssi snr s).env = s.env.advance 2 2 := rfl

/-! #### The branch on the flags (R170 step E3) -/

section
variable {s : State}

theorem edgeBranchAct_crcError (hrx : s.work.irq &&& 0x40 ≠ 0) (hcrc : s.work.irq &&& 0x20 ≠ 0) :
    edgeBranchAct s = .goto 4 s :=
  (if_pos (irqHas_of_ne hrx)).trans (if_pos (irqHas_of_ne hcrc))

theorem edgeBranchAct_frame (hrx : s.work.irq &&& 0x40 ≠ 0) (hcrc : s.work.irq &&& 0x20 = 0) :
    edgeBranchAct s = .goto 5 s :=
  (if_pos (irqHas_of_ne hrx)).trans (if_neg (Bool.eq_false_iff.mp (irqHas_of_eq hcrc)))

theorem edgeBranchAct_spurious (hrx : s.work.irq &&& 0x40 = 0) : edgeBranchAct s = .goto 15 s :=
  if_neg (Bool.eq_false_iff.mp (irqHas_of_eq hrx))

end

/-! #### The stretches of a dispatch -/

section
variable {q : Nat} {s : State}

/-- The engine's turn on an EDGE token runs the dispatch (R170). -/
theorem runMsg_edge (s : State) : runMsg .edge s = runMessage none dispatchProg s := rfl

/-- A dispatch of a connected controller reads the flags and branches on them (R170). -/
theorem runMsg_edge_flags {j : Nat} (hpc : s.eng.pc = .run .edge 1) (hconn : s.eng.connected = true)
    (hok : spiErrNow s = false) (hquant : s.env.quantum = q + 3)
    (hbranch : edgeBranchAct (flagsRead (answer s 0) s) = .goto j (flagsRead (answer s 0) s)) :
    runMsg .edge s = runActs none dispatchProg .edge q j (flagsRead (answer s 0) s) := by
  have hconnected : edgeConnectedAct s = .step s := if_pos hconn
  have hread : runActs none dispatchProg .edge (q + 2) 2 s =
      runActs none dispatchProg .edge (q + 1) 3 (flagsRead (answer s 0) s) :=
    runActs_read (reg := fun r => r.irqFlags) (store := setIrq) rfl hok (chipAnswer_spec s)
  rw [runMsg_edge, runMessage_run hpc, hquant, runActs_step rfl hconnected, hread, runActs_goto rfl hbranch]

/-- The frame's address and length (R172 steps X1 to X3). -/
theorem runActs_header {a n : Byte} (herr : noSpiErr s 3) (ha : answer s 0 = a) (hn : answer s 1 = n) :
    runActs none dispatchProg .edge (q + 3) 5 s = runActs none dispatchProg .edge q 8 (headerRead a n s) := by
  rw [runActs_read rfl (noSpiErr_now herr (by decide)) ha,
    runActs_write rfl (spiErrNow_later herr 1 (by decide) (by simp) (by simp) (by simp)),
    runActs_read rfl (spiErrNow_later herr 2 (by decide) (by simp) (by simp) (by simp))
      ((chipAnswer_later 1 (by simp) (by simp)).trans hn), headerRead, afterBus_cons, afterBus_cons]
  rfl

/-- RSSI and SNR (R172 steps X6, X7). -/
theorem runActs_signal {rssi snr : Byte} (herr : noSpiErr s 2) (hrssi : answer s 0 = rssi) (hsnr : answer s 1 = snr) :
    runActs none dispatchProg .edge (q + 2) 10 s = runActs none dispatchProg .edge q 12 (signalRead rssi snr s) := by
  rw [runActs_read rfl (noSpiErr_now herr (by decide)) hrssi,
    runActs_read rfl (spiErrNow_later herr 1 (by decide) (by simp) (by simp) (by simp))
      ((chipAnswer_later 1 (by simp) (by simp)).trans hsnr), signalRead, afterBus_cons]
  rfl

/-- The end of RxDone handling (R176). -/
theorem runActs_rxEnd (hok : spiErrNow s = false) :
    runActs none dispatchProg .edge (q + 1) 14 s = .next (setPc .idle (endOfRx s)) := by
  have hend : rxEndAct s = .done (endOfRx s) := by
    rw [rxEndAct_spec, endOfRx, hok]
    split <;> rfl
  exact runActs_done rfl hend

/-- RX_DONE cleared, and the end of RxDone handling (R172 step X9, R176, R177). -/
theorem runActs_rxClear (herr : noSpiErr s 2) :
    runActs none dispatchProg .edge (q + 2) 13 s =
      .next (setPc .idle (endOfRx (afterBus s [.write s.cfg.regmap.irqFlags 0x40]))) := by
  rw [runActs_write rfl (noSpiErr_now herr (by decide)),
    runActs_rxEnd (spiErrNow_later herr 1 (by decide) (by simp) (by simp) (by simp))]
  rfl

end

/-! #### The bytes of a frame -/

section
variable {b : Nat → Byte} {s : State} {j n : Nat}

/-- One more byte received (R172 step X5). -/
theorem bytesRead_succ (hj : j < s.work.rxb.length) :
    bytesRead b s (j + 1) =
      setWork { (bytesRead b s j).work with
          i := BitVec.ofNat 9 j + 1, rxb := (bytesRead b s j).work.rxb.set j (b j) }
        (afterBus (bytesRead b s j) [.read s.cfg.regmap.fifo (b j)]) := by
  have hrxb : (bytesRead b s j).work.rxb.set j (b j) = (List.range (j + 1)).map b ++ s.work.rxb.drop (j + 1) := by
    have hlen : ((List.range j).map b).length = j := by simp
    rw [bytesRead, setWork_work, List.set_append_right _ _ hlen.le, hlen, Nat.sub_self, List.drop_eq_getElem_cons hj,
      List.set_cons_zero, List.range_succ, List.map_append, List.append_assoc]
    rfl
  have hbus : afterBus s ((List.range (j + 1)).map fun i => .read s.cfg.regmap.fifo (b i)) =
      afterBus (afterBus s ((List.range j).map fun i => .read s.cfg.regmap.fifo (b i)))
        [.read s.cfg.regmap.fifo (b j)] := by
    rw [List.range_succ, List.map_append, ← afterBus_afterBus]
    rfl
  rw [hrxb, bytesRead, hbus, BitVec.ofNat_add]
  rfl

/-- A round of the FIFO reads: the next byte of the frame is read. -/
theorem rxFifoAct_bytesRead (herr : noSpiErr s n) (hans : ∀ j, answer s j = b j) (hn : s.work.n.toNat = n)
    (hlen : s.work.rxb.length = 255) (hj : j < n) :
    rxFifoAct (bytesRead b s j) =
      if j + 1 < n then .goto 9 (bytesRead b s (j + 1)) else .step (bytesRead b s (j + 1)) := by
  have hbound : n < 256 := hn ▸ s.work.n.isLt
  have hi : (bytesRead b s j).work.i.toNat = j := Nat.mod_eq_of_lt (show j < 512 by omega)
  have hcount : (bytesRead b s j).work.n.toNat = n := hn
  have hnow : spiErrNow (bytesRead b s j) = false :=
    spiErrNow_later herr j hj (bytesRead_cfg b s j) (by simp) (by simp)
  have hbyte : chipAnswer (bytesRead b s j) = b j := (answer_of_advance (bytesRead_env b s j) 0).trans (hans j)
  simp only [rxFifoAct_spec, hi, hcount, hnow, hbyte, bytesRead_succ (hlen.symm ▸ (by omega) : j < s.work.rxb.length)]
  rfl

section
variable {q : Nat}

/-- The FIFO reads of a frame: one for each of its bytes (R172 step X5). -/
theorem runActs_bytes (herr : noSpiErr s n) (hans : ∀ j, answer s j = b j) (hn : s.work.n.toNat = n) (hpos : 1 ≤ n)
    (hlen : s.work.rxb.length = 255) (hi : s.work.i = 0) :
    runActs none dispatchProg .edge (q + n) 9 s = runActs none dispatchProg .edge q 10 (bytesRead b s n) := by
  have hstart : bytesRead b s 0 = s := by
    have hzero : BitVec.ofNat 9 0 = s.work.i := hi.symm
    rw [bytesRead, hzero]
    exact congrArg (setWork s.work) (afterBus_nil s)
  have hloop := runActs_loop (op := none) (prog := dispatchProg) (m := .edge) (f := bytesRead b s) q rfl hpos
    fun j hj => rxFifoAct_bytesRead herr hans hn hlen hj
  rwa [hstart] at hloop

/-- The header, the bytes and the signal of a frame of `n` bytes read, with the answers that come (R172). -/
def frameRead (n : Nat) (s : State) : State :=
  signalRead (answer s (n + 2)) (answer s (n + 3))
    (bytesRead (fun j => answer s (2 + j)) (setI 0 (headerRead (answer s 0) (answer s 1) s)) n)

@[simp] theorem frameRead_cfg (n : Nat) (s : State) : (frameRead n s).cfg = s.cfg := by
  rw [frameRead, signalRead_cfg, bytesRead_cfg, setI_cfg, headerRead_cfg]

@[simp] theorem frameRead_env (n : Nat) (s : State) : (frameRead n s).env = s.env.advance (n + 5) (n + 4) := by
  rw [frameRead, signalRead_env, bytesRead_env, setI_env, headerRead_env, advance_advance, advance_advance]
  congr 1 <;> omega

/-- The reads of a frame's extraction (R172 steps X1 to X7). -/
theorem runActs_frameRead (herr : noSpiErr s (n + 5)) (hn : n = (answer s 1).toNat) (hpos : 1 ≤ n)
    (hlen : s.work.rxb.length = 255) :
    runActs none dispatchProg .edge (q + 2 + n + 1 + 3) 5 s = runActs none dispatchProg .edge q 12 (frameRead n s) := by
  have hne : answer s 1 ≠ 0 := fun h => by simp [h] at hn; omega
  have hlength : frameLengthAct (headerRead (answer s 0) (answer s 1) s) =
      .step (setI 0 (headerRead (answer s 0) (answer s 1) s)) := if_neg hne
  let t := setI 0 (headerRead (answer s 0) (answer s 1) s)
  let u := bytesRead (fun j => answer s (2 + j)) t n
  have ht : t.env = s.env.advance 3 2 := rfl
  have hu : u.env = s.env.advance (3 + n) (2 + n) := by simp [u, ht]
  have hbytes : noSpiErr t n := noSpiErr_of_advance herr rfl ht (by omega)
  have hsignal : noSpiErr u 2 := noSpiErr_of_advance herr (bytesRead_cfg _ t n) hu (by omega)
  have hans (j k : Nat) (hk : 2 + n + j = k) : answer u j = answer s k := hk ▸ answer_of_advance hu j
  rw [runActs_header (noSpiErr_of_le herr (by omega)) rfl rfl, runActs_step rfl hlength,
    runActs_bytes hbytes (answer_of_advance ht) hn.symm hpos hlen rfl,
    runActs_signal hsignal (hans 0 (n + 2) (by omega)) (hans 1 (n + 3) (by omega))]
  rfl

end

/-- The event of a frame that was read, its clear, and the end of RxDone handling (R172 steps X8, X9, R176). -/
theorem runActs_deliver {q : Nat} (herr : noSpiErr s 2) :
    runActs none dispatchProg .edge (q + 2 + 1) 12 s =
      .next (setPc .idle (endOfRx (afterBus (emit (rxEvent s) s) [.write s.cfg.regmap.irqFlags 0x40]))) := by
  have hclear : noSpiErr (emit (rxEvent s) s) 2 := by simpa [noSpiErr] using herr
  rw [runActs_set rfl, runActs_rxClear hclear, emit_cfg]

end

/-! #### A frame that was read -/

/-- The working registers and the bus history once a frame's header is read (R170, R172). -/
theorem headerRead_flagsRead (v a n : Byte) (s : State) :
    headerRead a n (flagsRead v s) =
      setWork { s.work with irq := v, a := a, n := n }
        (afterBus s [.read s.cfg.regmap.irqFlags v, .read s.cfg.regmap.fifoRxCurrent a,
          .write s.cfg.regmap.fifoAddrPtr a, .read s.cfg.regmap.rxNbBytes n]) := by
  rw [afterBus_cons]
  rfl

/-- The working registers and the bus history once a frame is read (R172). -/
theorem frameRead_flagsRead (n : Nat) (s : State) :
    frameRead n (flagsRead (answer s 0) s) =
      setWork
        { s.work with
          irq := answer s 0, a := answer s 1, n := answer s 2, i := BitVec.ofNat 9 n
          rxb := (List.range n).map (fun j => answer s (3 + j)) ++ s.work.rxb.drop n
          rssi := answer s (n + 3), snr := answer s (n + 4) }
        (afterBus s
          ([BusEvent.read s.cfg.regmap.irqFlags (answer s 0), BusEvent.read s.cfg.regmap.fifoRxCurrent (answer s 1),
            BusEvent.write s.cfg.regmap.fifoAddrPtr (answer s 1), BusEvent.read s.cfg.regmap.rxNbBytes (answer s 2)] ++
          ((List.range n).map (fun j => answer s (3 + j))).map (fun b => BusEvent.read s.cfg.regmap.fifo b) ++
          [BusEvent.read s.cfg.regmap.pktRssi (answer s (n + 3)),
            BusEvent.read s.cfg.regmap.pktSnr (answer s (n + 4))])) := by
  have hans (j k : Nat) (hk : 1 + j = k) : answer (flagsRead (answer s 0) s) j = answer s k :=
    hk ▸ answer_of_advance (flagsRead_env _ s) j
  have hbytes : (fun j => answer (flagsRead (answer s 0) s) (2 + j)) = fun j => answer s (3 + j) :=
    funext fun j => hans _ _ (by omega)
  rw [frameRead, hbytes, hans 0 1 rfl, hans 1 2 rfl, hans (n + 2) (n + 3) (by omega), hans (n + 3) (n + 4) (by omega),
    headerRead_flagsRead, List.map_map, ← afterBus_afterBus, ← afterBus_afterBus]
  rfl

/-- The event of a frame that was read (R172 step X8, R174). -/
theorem rxEvent_of_rxb {n : Nat} {bytes rest : List Byte} {s : State} (hrxb : s.work.rxb = bytes ++ rest)
    (hn : s.work.n.toNat = n) (hlen : bytes.length = n) :
    rxEvent s = { kind := .rxFrame, status := .ok, echoOrigin := false,
                  rssi := BitVec.ofInt 16 (s.work.rssi.toNat - 157), snr := s.work.snr, bytes := bytes } := by
  rw [rxEvent, rssiDbm_eq_ofInt, hrxb, hn, List.take_left' hlen]

end Sys2Proof.Machine

namespace Sys2Proof.Proofs

open Sys2Proof.Machine Sys2Proof.Safety

/-- Settles O32: by the branch on the flags, and in a frame's branch by the zero length. -/
theorem dispatchDropsWithoutEvent : Obligations.DispatchDropsWithoutEvent := by
  intro s hpc herr hquant r v
  obtain ⟨q, hq⟩ := Nat.exists_eq_add_of_le' hquant
  have hflags {j : Nat} (hconn : s.eng.connected = true)
      (hbranch : edgeBranchAct (flagsRead v s) = .goto j (flagsRead v s)) :
      runMsg .edge s = runActs none dispatchProg .edge (q + 6) j (flagsRead v s) :=
    runMsg_edge_flags hpc hconn (noSpiErr_now herr (by decide)) hq hbranch
  have hrest : noSpiErr (flagsRead v s) 5 :=
    noSpiErr_of_advance herr (flagsRead_cfg v s) (flagsRead_env v s) (by decide)
  have hnow : spiErrNow (flagsRead v s) = false := noSpiErr_now hrest (by decide)
  refine ⟨fun hconn => ?_, fun hconn hrx hcrc => ?_, fun hconn hrx hcrc hzero => ?_, fun hconn hrx hne => ?_,
    fun hconn hzero => ?_⟩
  · have hend : edgeConnectedAct s = .done s := if_neg (Bool.eq_false_iff.mp hconn)
    rw [runMsg_edge, runMessage_run hpc, hq, runActs_done rfl hend]
  · let t := afterBus (flagsRead v s) [.write r.irqFlags 0x60]
    have hdrop : crcDropAct (flagsRead v s) = .goto 14 t := if_neg (Bool.eq_false_iff.mp hnow)
    have hend : spiErrNow t = false := spiErrNow_later herr 2 (by decide) (by simp [t]) (by simp [t]) (by simp [t])
    rw [hflags hconn (edgeBranchAct_crcError hrx hcrc), runActs_goto rfl hdrop, runActs_rxEnd hend, afterBus_cons]
    rfl
  · have hans (j : Nat) : answer (flagsRead v s) j = answer s (1 + j) :=
      answer_of_advance (flagsRead_env v s) j
    have hlength (t : State) : frameLengthAct (headerRead (answer s 1) 0 t) = .goto 13 (headerRead (answer s 1) 0 t) :=
      rfl
    have hclear : noSpiErr (headerRead (answer s 1) 0 (flagsRead v s)) 2 :=
      noSpiErr_of_advance hrest (headerRead_cfg _ _ _) (headerRead_env _ _ _) (by decide)
    rw [hflags hconn (edgeBranchAct_frame hrx hcrc),
      runActs_header (noSpiErr_of_le hrest (by decide)) (hans 0) ((hans 1).trans hzero),
      runActs_goto rfl (hlength _), runActs_rxClear hclear, headerRead_flagsRead, afterBus_setWork, afterBus_afterBus]
    rfl
  · have hclear : spuriousAct (flagsRead v s) = .done (afterBus (flagsRead v s) [.write r.irqFlags v]) := by
      rw [spuriousAct_spec, hnow]
      exact if_neg hne
    rw [hflags hconn (edgeBranchAct_spurious hrx), runActs_done rfl hclear, afterBus_cons]
    rfl
  · have hrx : v &&& 0x40 = 0 := by rw [hzero]; rfl
    have hnone : spuriousAct (flagsRead v s) = .done (flagsRead v s) := if_pos hzero
    rw [hflags hconn (edgeBranchAct_spurious hrx), runActs_done rfl hnone, hzero]
    rfl

/-- Settles O33: the flags, the reads of the frame, and its delivery. -/
theorem dispatchExtractsFrame : Obligations.DispatchExtractsFrame := by
  intro n s hpc hconn hrx hcrc hn hpos hlen herr hquant r bytes rssi snr read event
  obtain ⟨q, hq⟩ := Nat.exists_eq_add_of_le' hquant
  let t := flagsRead (answer s 0) s
  have hfuel : s.env.quantum = q + 2 + 1 + 2 + n + 1 + 3 + 3 := by omega
  have hread : noSpiErr t (n + 7) := noSpiErr_of_advance herr (flagsRead_cfg _ s) (flagsRead_env _ s) (by omega)
  have hlength : n = (answer t 1).toNat := hn.trans (congrArg _ (answer_of_advance (flagsRead_env _ s) 1).symm)
  have hdeliver : noSpiErr (frameRead n t) 2 :=
    noSpiErr_of_advance hread (frameRead_cfg n t) (frameRead_env n t) (by omega)
  have hstate : frameRead n t = read := frameRead_flagsRead n s
  have hevent : rxEvent read = event := rxEvent_of_rxb (bytes := bytes) rfl hn.symm (by simp [bytes])
  rw [runMsg_edge_flags hpc hconn (noSpiErr_now herr (by omega)) hfuel (edgeBranchAct_frame hrx hcrc),
    runActs_frameRead (noSpiErr_of_le hread (by omega)) hlength hpos hlen,
    runActs_deliver hdeliver, hstate, hevent]
  rfl

end Sys2Proof.Proofs
end

/-! ### The echo sequencer's actions, one rule for each case -/

section

namespace Sys2Proof.Machine

open Sys2Proof.Safety

section
variable {s : State} {pick : Config.EchoPick}

/-! #### Which action is taken (R190, R195) -/

theorem echoStep_of_waiting (hawait : s.eseq.await ≠ .none) (hvalid : s.rpl.valid = false) : echoStep pick s = s := by
  rw [echoStep, if_pos hawait, hvalid]
  rfl

theorem echoStep_of_reply (hawait : s.eseq.await ≠ .none) (hvalid : s.rpl.valid = true) :
    echoStep pick s = consumeReply s := by
  rw [echoStep, if_pos hawait, if_pos hvalid]

theorem echoStep_of_start (hfree : s.eseq.await = .none) (hrun : s.ectl.run = true)
    (hnew : s.eseq.seen ≠ s.ectl.session) : echoStep pick s = applyStart s := by
  have hstart : (s.ectl.run && s.eseq.seen != s.ectl.session) = true := by simp [hrun, hnew]
  rw [echoStep, if_neg (not_not.mpr hfree), if_pos hstart]

theorem echoStep_of_stop (hfree : s.eseq.await = .none) (hrun : s.ectl.run = false) (hbusy : s.eseq.state ≠ .idle) :
    echoStep pick s = applyStop s := by
  have hstart : ¬ (s.ectl.run && s.eseq.seen != s.ectl.session) = true := by simp [hrun]
  have hstop : (!s.ectl.run && s.eseq.state != .idle) = true := by simp [hrun, hbusy]
  rw [echoStep, if_neg (not_not.mpr hfree), if_neg hstart, if_pos hstop]

theorem echoStep_of_settled (hfree : s.eseq.await = .none) (hsettled : noControlPending s = true) :
    echoStep pick s = echoOpen pick s := by
  simp only [noControlPending, Bool.and_eq_true, Bool.not_eq_true'] at hsettled
  obtain ⟨hstart, hstop⟩ := hsettled
  rw [echoStep, if_neg (not_not.mpr hfree), hstart, hstop]
  rfl

/-! #### The actions that are open to choice (R190) -/

theorem echoOpen_arm (hfired : s.eseq.armFired = true) : echoOpen .arm s = armExpiry s := if_pos hfired

theorem echoOpen_echo (hfired : s.eseq.echoFired = true) : echoOpen .echo s = echoExpiry s := if_pos hfired

theorem echoOpen_event {x : EqEntry} {rest : List EqEntry} (hq : s.eq = x :: rest) :
    echoOpen .event s = handleEqHead s := by
  simp only [echoOpen, hq, List.isEmpty_cons, Bool.false_eq_true, if_false]

/-- With nothing fired and EQ empty, no choice of the sequencer finds anything to do. -/
theorem echoOpen_of_nothing (harm : s.eseq.armFired = false) (hecho : s.eseq.echoFired = false) (hq : s.eq = []) :
    echoOpen pick s = s := by
  have hhead : handleEqHead s = s := by simp only [handleEqHead, hq]
  cases pick <;> simp [echoOpen, harm, hecho, hq, hhead]

/-! #### The expiries (R199, R200) -/

theorem armExpiry_of_listening (hstate : s.eseq.state = .listening) :
    armExpiry s = { s with
      inq := s.inq ++ [.ecall .receiveMode 0 s.eseq.seen]
      eseq := { s.eseq with armFired := false, callSess := s.eseq.seen, await := .recv } } :=
  if_pos hstate

theorem armExpiry_of_not_listening (hstate : s.eseq.state ≠ .listening) :
    armExpiry s = { s with eseq := { s.eseq with armFired := false } } :=
  if_neg hstate

theorem echoExpiry_of_echoing (hstate : s.eseq.state = .echoing) :
    echoExpiry s = { s with
      inq := s.inq ++ [.ecall .transmit (s.eseq.len.setWidth 32) s.eseq.seen]
      eseq := { s.eseq with
        echoFired := false, txc := satInc s.eseq.txc, callSess := s.eseq.seen, await := .xmit } } :=
  if_pos hstate

theorem echoExpiry_of_not_echoing (hstate : s.eseq.state ≠ .echoing) :
    echoExpiry s = { s with eseq := { s.eseq with echoFired := false } } :=
  if_neg hstate

theorem armExpiry_armFired (s : State) : (armExpiry s).eseq.armFired = false := by
  rcases armExpiry_cases s with ⟨-, h⟩ | h <;> rw [h]

theorem echoExpiry_echoFired (s : State) : (echoExpiry s).eseq.echoFired = false := by
  rcases echoExpiry_cases s with ⟨-, h⟩ | h <;> rw [h]

/-! #### The head of EQ (R196, R198, R204) -/

section
variable {x : EqEntry} {rest : List EqEntry}

theorem handleEqHead_discards (hq : s.eq = x :: rest) (hskip : s.eseq.state = .idle ∨ x.session ≠ s.eseq.seen) :
    handleEqHead s = { s with eq := rest } := by
  simp only [handleEqHead, hq, if_pos hskip]

theorem handleEqHead_frame (hq : s.eq = x :: rest) (hbusy : s.eseq.state ≠ .idle) (hsess : x.session = s.eseq.seen)
    (hk : x.kind = .rxFrame) : handleEqHead s = onRxFrame x.bytes { s with eq := rest } := by
  have hkeep : ¬ (s.eseq.state = .idle ∨ x.session ≠ s.eseq.seen) := not_or.mpr ⟨hbusy, not_not.mpr hsess⟩
  simp only [handleEqHead, hq, if_neg hkeep, hk]

theorem handleEqHead_txEvent (hq : s.eq = x :: rest) (hbusy : s.eseq.state ≠ .idle) (hsess : x.session = s.eseq.seen)
    (hk : x.kind ≠ .rxFrame) : handleEqHead s = onTxEvent { s with eq := rest } := by
  have hkeep : ¬ (s.eseq.state = .idle ∨ x.session ≠ s.eseq.seen) := not_or.mpr ⟨hbusy, not_not.mpr hsess⟩
  rcases hkind : x.kind
  · exact absurd hkind hk
  all_goals simp only [handleEqHead, hq, if_neg hkeep, hkind]

theorem onRxFrame_of_listening {d : List Byte} (hstate : s.eseq.state = .listening) :
    onRxFrame d s = { s with eseq := { s.eseq with
      rxc := satInc s.eseq.rxc
      state := .echoing
      buf := echoBytes s.ectl d s.eseq.buf
      len := BitVec.ofNat 9 (s.ectl.plen.toNat + d.length)
      echoCnt := BitVec.ofNat 17 (s.ectl.delay.toNat + 1)
      echoFired := false } } :=
  if_pos hstate

theorem onRxFrame_of_not_listening {d : List Byte} (hstate : s.eseq.state ≠ .listening) : onRxFrame d s = s :=
  if_neg hstate

theorem onTxEvent_of_waiting (hstate : s.eseq.state = .waitingTxDone) :
    onTxEvent s = { s with eseq := { s.eseq with state := .listening, armCnt := 1, armFired := false } } :=
  if_pos hstate

theorem onTxEvent_of_not_waiting (hstate : s.eseq.state ≠ .waitingTxDone) : onTxEvent s = s := if_neg hstate

/-- The head of EQ is taken, whatever becomes of it. -/
theorem handleEqHead_takes (hq : s.eq = x :: rest) : (handleEqHead s).eq = rest := by
  by_cases hskip : s.eseq.state = .idle ∨ x.session ≠ s.eseq.seen
  · rw [handleEqHead_discards hq hskip]
  · rw [not_or, not_not] at hskip
    by_cases hk : x.kind = .rxFrame
    · rw [handleEqHead_frame hq hskip.1 hskip.2 hk]
      unfold onRxFrame
      split <;> rfl
    · rw [handleEqHead_txEvent hq hskip.1 hskip.2 hk]
      unfold onTxEvent
      split <;> rfl

end

/-- Byte `i` of the echo: x[E_PREFIX] first, then the frame (R208). -/
theorem getElem?_echoBytes {c : EchoCtl} {d old : List Byte} {i : Nat}
    (hi : i < min (c.plen.toNat + d.length) 255) :
    (echoBytes c d old)[i]? = some (if i < c.plen.toNat then c.pfx.getD i 0 else d.getD (i - c.plen.toNat) 0) := by
  simp only [echoBytes]
  rw [List.getElem?_append_left (by simpa using hi), List.getElem?_map, List.getElem?_range hi]
  rfl

/-! #### The reply (R201 to R203) -/

/-- A consumed reply leaves RPL free and no call awaited. -/
def replyFreed (s : State) : State :=
  { s with rpl := { s.rpl with valid := false }, eseq := { s.eseq with await := .none } }

theorem consumeReply_of_stale (hstale : s.ectl.run = false ∨ s.ectl.session ≠ s.eseq.callSess) :
    consumeReply s = replyFreed s := by
  have hno : ¬ (s.ectl.run && s.ectl.session == s.eseq.callSess) = true := by
    rcases hstale with h | h <;> simp [h]
  exact if_neg hno

theorem consumeReply_of_recv (hrun : s.ectl.run = true) (hsess : s.ectl.session = s.eseq.callSess)
    (hawait : s.eseq.await = .recv) :
    consumeReply s = if s.rpl.status = .ok then replyFreed s
      else { replyFreed s with eseq := { (replyFreed s).eseq with armCnt := 1001, armFired := false } } := by
  have hcurrent : (s.ectl.run && s.ectl.session == s.eseq.callSess) = true := by simp [hrun, hsess]
  simp only [consumeReply, if_pos hcurrent, hawait, onRecvReply]
  split <;> rfl

theorem consumeReply_of_xmit (hrun : s.ectl.run = true) (hsess : s.ectl.session = s.eseq.callSess)
    (hawait : s.eseq.await = .xmit) :
    consumeReply s = if s.rpl.status = .ok then
        { replyFreed s with eseq := { (replyFreed s).eseq with state := .waitingTxDone } }
      else
        { replyFreed s with
          eseq := { (replyFreed s).eseq with state := .listening, armCnt := 1, armFired := false } } := by
  have hcurrent : (s.ectl.run && s.ectl.session == s.eseq.callSess) = true := by simp [hrun, hsess]
  simp only [consumeReply, if_pos hcurrent, hawait, onXmitReply]
  split <;> rfl

end

/-! #### Quiescence (R251) -/

/-- With no enabled action, no choice of the sequencer changes anything (R190). -/
theorem echoStep_of_not_enabled {s : State} (h : echoEnabled s = false) (p : Config.EchoPick) : echoStep p s = s := by
  by_cases hfree : s.eseq.await = .none
  · simp only [echoEnabled, hfree, if_true, Bool.or_eq_false_iff, Bool.not_eq_false', List.isEmpty_iff] at h
    obtain ⟨⟨⟨hsettled, harm⟩, hecho⟩, hq⟩ := h
    rw [echoStep_of_settled hfree hsettled, echoOpen_of_nothing harm hecho hq]
  · rw [echoEnabled, if_neg hfree] at h
    exact echoStep_of_waiting hfree h

/-- With no call awaited, a pending START or STOP changes the state, whatever the choice (R193, R194). -/
theorem echoStep_ne_of_controlPending {s : State} (hfree : s.eseq.await = .none) (h : noControlPending s = false)
    (p : Config.EchoPick) : echoStep p s ≠ s := by
  intro hsame
  rw [← Bool.not_eq_true, noControlPending_iff, not_and_or, not_forall, not_forall] at h
  rcases h with ⟨hrun, hnew⟩ | ⟨hrun, hbusy⟩
  · rw [echoStep_of_start hfree hrun hnew] at hsame
    exact hnew (congrArg (fun t => t.eseq.seen) hsame).symm
  · rw [echoStep_of_stop hfree hrun hbusy] at hsame
    exact hbusy (congrArg (fun t => t.eseq.state) hsame).symm

/-- An expired timer or an entry of EQ changes the state, where it is chosen (R190). -/
theorem exists_echoOpen_ne {s : State}
    (h : (s.eseq.armFired = true ∨ s.eseq.echoFired = true) ∨ s.eq ≠ []) : ∃ p, echoOpen p s ≠ s := by
  rcases h with (harm | hecho) | hq
  · refine ⟨.arm, fun hsame => ?_⟩
    have hcleared := armExpiry_armFired s
    rw [← echoOpen_arm harm, hsame, harm] at hcleared
    cases hcleared
  · refine ⟨.echo, fun hsame => ?_⟩
    have hcleared := echoExpiry_echoFired s
    rw [← echoOpen_echo hecho, hsame, hecho] at hcleared
    cases hcleared
  · obtain ⟨x, rest, heq⟩ := List.exists_cons_of_ne_nil hq
    refine ⟨.event, fun hsame => ?_⟩
    have htaken := handleEqHead_takes heq
    rw [← echoOpen_event heq, hsame, heq] at htaken
    exact List.cons_ne_self x rest htaken

/-- An enabled action changes the state, where the sequencer chooses it (R190). -/
theorem exists_echoStep_ne {s : State} (h : echoEnabled s = true) : ∃ p, echoStep p s ≠ s := by
  by_cases hfree : s.eseq.await = .none
  · cases hsettled : noControlPending s
    · exact ⟨.arm, echoStep_ne_of_controlPending hfree hsettled .arm⟩
    · simp only [echoStep_of_settled hfree hsettled]
      refine exists_echoOpen_ne ?_
      simpa [echoEnabled, hfree, hsettled] using h
  · rw [echoEnabled, if_neg hfree] at h
    refine ⟨.arm, fun hsame => hfree ?_⟩
    rw [echoStep_of_reply hfree h] at hsame
    rw [← hsame, consumeReply_await]

section
variable {s : State}

theorem countDown_of_zero {w : Nat} {c : BitVec w} (h : c = 0) : countDown c = c := if_pos h

theorem tickWait_of_still (hwait : s.eng.waitCnt = 0) : tickWait s = s := by
  rw [tickWait, countDown_of_zero hwait]

theorem tickRxSingle_of_still (hrxs : s.rxs.cnt = 0) : tickRxSingle s = s := by
  have hexp : ¬ expires s.rxs.cnt = true := by rw [hrxs]; nofun
  rw [tickRxSingle, countDown_of_zero hrxs, if_neg hexp]

theorem tickEcho_of_still (harm : s.eseq.armCnt = 0) (hecho : s.eseq.echoCnt = 0) : tickEcho s = s := by
  have harmExp : expires s.eseq.armCnt = false := by rw [harm]; rfl
  have hechoExp : expires s.eseq.echoCnt = false := by rw [hecho]; rfl
  rw [tickEcho, countDown_of_zero harm, countDown_of_zero hecho, harmExp, hechoExp, Bool.or_false, Bool.or_false]

/-- With every countdown at 0 and no TX wait, a tick changes nothing (R110 to R113). -/
theorem timerTick_of_still (hwait : s.eng.waitCnt = 0) (hrxs : s.rxs.cnt = 0) (harm : s.eseq.armCnt = 0)
    (hecho : s.eseq.echoCnt = 0) (htx : s.tx.pending = false) : timerTick s = s := by
  rw [timerTick, tickWait_of_still hwait, tickRxSingle_of_still hrxs, tickEcho_of_still harm hecho,
    tickTx_of_not_pending htx]

end

end Sys2Proof.Machine

namespace Sys2Proof.Proofs

open Sys2Proof.Machine Sys2Proof.Safety

/-- Settles O45, by what the priority of R195 puts first. -/
theorem echoControlIsApplied : Obligations.EchoControlIsApplied := fun _ _ =>
  ⟨fun hawait hvalid => echoStep_of_waiting hawait hvalid,
   fun hfree hrun hnew => echoStep_of_start hfree hrun hnew,
   fun hfree hrun hbusy => echoStep_of_stop hfree hrun hbusy⟩

/-- Settles O46: the session filter, then by the kind of the entry and the state. -/
theorem echoHandlesHeadOfEq : Obligations.EchoHandlesHeadOfEq := by
  intro x rest s hfree hsettled hq hbuf popped
  have hstep : echoStep .event s = handleEqHead s :=
    (echoStep_of_settled hfree hsettled).trans (echoOpen_event hq)
  rw [hstep]
  refine ⟨fun hskip => handleEqHead_discards hq hskip, fun hbusy hsess hk hstate => ?_, fun hstate hsess hk => ?_,
    fun hstate hsess hk => ?_, fun hbusy hstate hsess hk => ?_⟩
  · rw [handleEqHead_frame hq hbusy hsess hk]
    exact onRxFrame_of_not_listening hstate
  · refine ⟨echoBytes s.ectl x.bytes s.eseq.buf, length_echoBytes _ _ _ hbuf, fun i hi => getElem?_echoBytes hi, ?_⟩
    rw [handleEqHead_frame hq (by rw [hstate]; nofun) hsess hk]
    exact onRxFrame_of_listening hstate
  · rw [handleEqHead_txEvent hq (by rw [hstate]; nofun) hsess hk]
    exact onTxEvent_of_waiting hstate
  · rw [handleEqHead_txEvent hq hbusy hsess hk]
    exact onTxEvent_of_not_waiting hstate

/-- Settles O47: each expiry by whether the sequencer is in its state. -/
theorem echoExpiriesPostCalls : Obligations.EchoExpiriesPostCalls := by
  intro s hfree hsettled
  have hstep (p : Config.EchoPick) : echoStep p s = echoOpen p s := echoStep_of_settled hfree hsettled
  simp only [hstep]
  refine ⟨fun hfired hstate => ?_, fun hfired hstate => ?_, fun hfired hstate => ?_, fun hfired hstate => ?_⟩
  · rw [echoOpen_arm hfired, armExpiry_of_listening hstate]
  · rw [echoOpen_arm hfired, armExpiry_of_not_listening hstate]
  · rw [echoOpen_echo hfired, echoExpiry_of_echoing hstate]
    rfl
  · rw [echoOpen_echo hfired, echoExpiry_of_not_echoing hstate]

/-- Settles O48: by the session of the reply, then by the call and the status. -/
theorem echoConsumesReply : Obligations.EchoConsumesReply := by
  intro p s hvalid hawait freed
  rw [echoStep_of_reply hawait hvalid]
  exact ⟨fun hstale => consumeReply_of_stale hstale,
    fun hrun hsess hrecv => consumeReply_of_recv hrun hsess hrecv,
    fun hrun hsess hxmit => consumeReply_of_xmit hrun hsess hxmit⟩

/-- Settles O43: no countdown runs, no message waits, and an action of the sequencer is enabled exactly where it can
change something. -/
theorem quiescentChangesNothing : Obligations.QuiescentChangesNothing := by
  refine ⟨fun s h => ?_, fun s => ⟨exists_echoStep_ne, fun ⟨p, hp⟩ => ?_⟩⟩
  · simp only [quiescent, Bool.and_eq_true, beq_iff_eq, Bool.not_eq_true', List.isEmpty_iff] at h
    obtain ⟨⟨⟨⟨⟨⟨⟨hpc, hinq⟩, hecho⟩, hwait⟩, hrxs⟩, harm⟩, hcnt⟩, htx⟩ := h
    refine ⟨?_, timerTick_of_still hwait hrxs harm hcnt htx, echoStep_of_not_enabled hecho⟩
    simp only [engineTurn, currentMsg, hpc, hinq, List.head?_nil]
  · exact eq_true_of_ne_false fun hno => hp (echoStep_of_not_enabled hno p)

end Sys2Proof.Proofs
end

/-! ### ECHO_START and ECHO_STOP -/

section

namespace Sys2Proof.Machine

open Sys2Proof.Safety

/-- One byte of x[E_PREFIX], case by case (R191 step 3). -/
theorem prefixCopyAct_spec (plen : Nat) (s : State) :
    prefixCopyAct plen s =
      let t := setI (s.work.i + 1)
        { s with ectl := { s.ectl with pfx := s.ectl.pfx.set s.work.i.toNat (txByte s s.work.i.toNat) } }
      if s.work.i.toNat + 1 < plen then .goto 4 t else .step t := rfl

/-- The first `j` bytes of x[E_PREFIX] taken from TXBUF. -/
def prefixFrom (s : State) (j : Nat) : List Byte :=
  s.ectl.pfx.mapIdx fun i b => if i < j then txByte s i else b

theorem prefixFrom_zero (s : State) : prefixFrom s 0 = s.ectl.pfx := by
  simp only [prefixFrom, Nat.not_lt_zero, if_false]
  exact List.ext_getElem? fun i => by simp

/-- One more byte of x[E_PREFIX]. -/
theorem prefixFrom_succ (s : State) (j : Nat) : prefixFrom s (j + 1) = (prefixFrom s j).set j (txByte s j) := by
  refine List.ext_getElem (by simp [prefixFrom]) fun i hi _ => ?_
  simp only [prefixFrom, List.getElem_mapIdx, List.getElem_set]
  rcases Nat.lt_trichotomy i j with h | rfl | h
  · rw [if_pos (by omega), if_neg (by omega), if_pos h]
  · rw [if_pos (Nat.lt_succ_self i), if_pos rfl]
  · rw [if_neg (by omega), if_neg (by omega), if_neg (by omega)]

/-- The first `j` bytes of x[E_PREFIX] copied (R191 step 3). -/
def prefixCopied (s : State) (j : Nat) : State :=
  setI (BitVec.ofNat 9 j) { s with ectl := { s.ectl with pfx := prefixFrom s j } }

/-- A round of the copy: the next byte of TXBUF goes to its place. -/
theorem prefixCopyAct_prefixCopied {plen j : Nat} (s : State) (hplen : plen < 256) (hj : j < plen) :
    prefixCopyAct plen (prefixCopied s j) =
      if j + 1 < plen then .goto 4 (prefixCopied s (j + 1)) else .step (prefixCopied s (j + 1)) := by
  have hi : (prefixCopied s j).work.i.toNat = j := Nat.mod_eq_of_lt (show j < 512 by omega)
  have hnext : prefixCopied s (j + 1) = setI ((prefixCopied s j).work.i + 1)
      { prefixCopied s j with ectl := { (prefixCopied s j).ectl with
        pfx := (prefixCopied s j).ectl.pfx.set j (txByte (prefixCopied s j) j) } } := by
    rw [prefixCopied, prefixFrom_succ, BitVec.ofNat_add]
    rfl
  rw [prefixCopyAct_spec, hi, ← hnext]

theorem prefixCopied_zero (s : State) : prefixCopied s 0 = setI 0 s := by
  rw [prefixCopied, prefixFrom_zero]
  rfl

/-- What step 3 of ECHO_START leaves but for the length: x[E_PREFIX] and x[W_I], where there are bytes to copy
(R191). -/
def prefixLoaded (lp : Bool) (plen : Nat) (s : State) : State :=
  if lp = true ∧ 0 < plen then prefixCopied s plen else s

/-- Step 3 of ECHO_START in the terms of its statement: with nothing to copy x[E_PREFIX] is as it was. -/
theorem prefixLoaded_eq (lp : Bool) (plen : Nat) (s : State) :
    prefixLoaded lp plen s = { s with
      work := { s.work with i := if lp = true ∧ 0 < plen then BitVec.ofNat 9 plen else s.work.i }
      ectl := { s.ectl with pfx := if lp then prefixFrom s plen else s.ectl.pfx } } := by
  by_cases hcopy : lp = true ∧ 0 < plen
  · rw [prefixLoaded, if_pos hcopy, if_pos hcopy, if_pos hcopy.1]
    rfl
  · have hsame : (if lp then prefixFrom s plen else s.ectl.pfx) = s.ectl.pfx := by
      split
      · rename_i hlp
        obtain rfl : plen = 0 := by simpa [hlp] using hcopy
        exact prefixFrom_zero s
      · rfl
    rw [prefixLoaded, if_neg hcopy, if_neg hcopy, hsame]

theorem loadPlen_eq (lp : Bool) (plen : Nat) (s : State) :
    loadPlen lp plen s =
      { s with ectl := { s.ectl with plen := if lp then BitVec.ofNat 8 plen else s.ectl.plen } } := by
  cases lp <;> rfl

theorem loadDelay_eq (ld : Bool) (delay : Nat) (s : State) :
    loadDelay ld delay s =
      { s with ectl := { s.ectl with delay := if ld then BitVec.ofNat 16 delay else s.ectl.delay } } := by
  cases ld <;> rfl

/-- Step 5 of ECHO_START, where the session is a new one (R191, U20). -/
theorem echoStartAct_starts {s : State} (hfresh : s.ectl.session + 1 ≠ s.eseq.seen) (hroom : canReply s = true) :
    echoStartAct s = .done (respond 0x12 .ok 0 (echoStarted s)) := by
  have hno : ¬ (canReply s && decide (s.ectl.session + 1 = s.eseq.seen)) = true := by
    rw [decide_eq_false hfresh, Bool.and_false]
    nofun
  rw [echoStartAct, if_neg hno, replyWith_spec, if_pos hroom]

section
variable {op : Option Byte} {m : Msg} {lp ld : Bool} {delay plen n q : Nat} {s : State}

/-- The checks of ECHO_START (R191 steps 1, 2). -/
theorem runActs_echoStart_checks (hrun : s.ectl.run = false) (hlegal : lp = true → plen ≤ s.cfg.prefixMax) :
    runActs op (echoStartProg lp ld delay plen) m (n + 2) 1 s =
      runActs op (echoStartProg lp ld delay plen) m n 3 s := by
  have hok : operandsLegal s.cfg (.echoStart lp ld delay plen) = true := by cases lp <;> simp_all [operandsLegal]
  rw [runActs_need rfl (by simp [hrun]), runActs_need rfl hok]

/-- The copy of x[E_PREFIX], or the jump past it (R191 step 3); `q + 3` actions are left at least. -/
theorem runActs_prefix (hplen : plen < 256) (hn : plen + 4 ≤ n) :
    ∃ q, runActs op (echoStartProg lp ld delay plen) m n 3 s =
      runActs op (echoStartProg lp ld delay plen) m (q + 3) 5 (prefixLoaded lp plen s) := by
  by_cases hcopy : lp = true ∧ 0 < plen
  · obtain ⟨q, rfl⟩ : ∃ q, n = q + 3 + plen + 1 := ⟨n - (plen + 4), by omega⟩
    have hstart : prefixStartAct lp plen s = .step (prefixCopied s 0) := by
      rw [prefixCopied_zero]
      exact if_pos (by simp [hcopy])
    refine ⟨q, ?_⟩
    rw [prefixLoaded, if_pos hcopy, runActs_step rfl hstart]
    exact runActs_loop _ rfl hcopy.2 fun j hj => prefixCopyAct_prefixCopied s hplen hj
  · obtain ⟨q, rfl⟩ : ∃ q, n = q + 3 + 1 := ⟨n - 4, by omega⟩
    have hskip : prefixStartAct lp plen s = .goto 5 s := if_neg (by simpa using hcopy)
    exact ⟨q, by rw [prefixLoaded, if_neg hcopy, runActs_goto rfl hskip]⟩

/-- The last steps of ECHO_START: the length, the delay, and the start with its reply (R191 steps 3 to 5). -/
theorem runActs_echoStart_end (hfresh : s.ectl.session + 1 ≠ s.eseq.seen) (hroom : canReply s = true) :
    runActs op (echoStartProg lp ld delay plen) m (q + 3) 5 s =
      .next (answered 0x12 .ok 0 (echoStarted { s with ectl := { s.ectl with
        plen := if lp then BitVec.ofNat 8 plen else s.ectl.plen
        delay := if ld then BitVec.ofNat 16 delay else s.ectl.delay } })) := by
  rw [runActs_set rfl, runActs_set rfl, loadPlen_eq, loadDelay_eq]
  exact runActs_done rfl (echoStartAct_starts hfresh hroom)

end

end Sys2Proof.Machine

namespace Sys2Proof.Proofs

open Sys2Proof.Machine Sys2Proof.Safety

/-- Settles O29: the checks, the copy of x[E_PREFIX], and the start. -/
theorem echoStartCompletes : Obligations.EchoStartCompletes := by
  intro lp ld delay plen m s hdelay hplen hpc hrun hlegal hfresh hroom hquant
  obtain ⟨n, hn⟩ := Nat.exists_eq_add_of_le' (show 2 ≤ s.env.quantum by omega)
  obtain ⟨q, hprefix⟩ := runActs_prefix (op := some 0x12) (m := m) (lp := lp) (ld := ld) (delay := delay)
    (s := s) hplen (show plen + 4 ≤ n by omega)
  rw [exec_eq_runMessage, runMessage_run hpc, hn, instrProg, runActs_echoStart_checks hrun hlegal]
  rw [prefixLoaded_eq] at hprefix
  exact hprefix.trans (runActs_echoStart_end hfresh hroom)

/-- Settles O31: its one action is the reply, with what it leaves. -/
theorem echoStopCompletes : Obligations.EchoStopCompletes := by
  intro m s hpc hroom hquant
  obtain ⟨q, hq⟩ := Nat.exists_eq_add_of_le' hquant
  rw [exec_eq_runMessage, runMessage_run hpc, hq, instrProg, runActs_reply rfl hroom]
  rfl

end Sys2Proof.Proofs
end

/-! ### Invariant 6 of R207: a sequencer in WaitingTxDone has its TX event in EQ -/

section

namespace Sys2Proof.Machine

open Sys2Proof.Safety

/-! #### The calls match what is awaited -/

/-- The first two clauses of `WaitEndsOk`: every call in INQ or executing is the one that is awaited. -/
structure CallsMatch (s : State) : Prop where
  queued : ∀ m ∈ s.inq, callMatches s m = true
  running : ∀ m, runningMsg s = some m → callMatches s m = true

/-- What x[E_AWAIT] and RPL promise a TX event for: the wait itself, or an OK reply of a transmit call. -/
def TxEventDue (s : State) : Prop :=
  s.eseq.state = .waitingTxDone ∨ (s.eseq.await = .xmit ∧ s.rpl.valid = true ∧ s.rpl.status = .ok)

theorem waitEndsOk_iff (s : State) :
    WaitEndsOk s ↔ CallsMatch s ∧ (TxEventDue s → sessionRuns s = true → HasTxEvent s) := by
  have hrunning : (runningMsg s).all (callMatches s) = true ↔ ∀ m, runningMsg s = some m → callMatches s m = true := by
    cases runningMsg s <;> simp
  constructor
  · rintro ⟨hqueued, hrun, hwait, hreply⟩
    refine ⟨⟨hqueued, hrunning.mp hrun⟩, ?_⟩
    rintro (hstate | ⟨hxmit, hvalid, hok⟩) hruns
    · exact hwait hstate hruns
    · exact hreply hxmit hvalid hok hruns
  · rintro ⟨⟨hqueued, hrun⟩, hends⟩
    exact ⟨hqueued, hrunning.mpr hrun, fun hstate => hends (.inl hstate),
      fun hxmit hvalid hok => hends (.inr ⟨hxmit, hvalid, hok⟩)⟩

theorem callMatches_of_not_call {m : Msg} (h : isCall m = false) (s : State) : callMatches s m = true := by
  cases m with
  | ecall => cases h
  | _ => rfl

/-- Whether a call is the awaited one depends on the sequencer's registers alone. -/
theorem callMatches_congr {s t : State} (hawait : t.eseq.await = s.eseq.await)
    (hsess : t.eseq.callSess = s.eseq.callSess) (m : Msg) : callMatches t m = callMatches s m := by
  unfold callMatches
  rw [hawait, hsess]

/-- The calls that are left match where those before did. -/
theorem CallsMatch.of_sub {s t : State} (h : CallsMatch s) (hawait : t.eseq.await = s.eseq.await)
    (hsess : t.eseq.callSess = s.eseq.callSess) (hinq : ∀ m ∈ t.inq, m ∈ s.inq ∨ isCall m = false)
    (hrun : ∀ m, runningMsg t = some m → runningMsg s = some m ∨ m ∈ s.inq) : CallsMatch t where
  queued m hm := by
    rcases hinq m hm with hs | hcall
    · exact (callMatches_congr hawait hsess m).trans (h.queued m hs)
    · exact callMatches_of_not_call hcall t
  running m hm := by
    rw [callMatches_congr hawait hsess]
    rcases hrun m hm with hs | hs
    · exact h.running m hs
    · exact h.queued m hs

/-- With no call awaited, or with its reply there, no message is a call. -/
theorem TokensInv.no_call {s : State} (h : TokensInv s) (hfree : s.eseq.await = .none ∨ s.rpl.valid = true) :
    (∀ m ∈ s.inq, isCall m = false) ∧ ∀ m, runningMsg s = some m → isCall m = false := by
  have hcalls := h.calls
  have hle : (s.eseq.await != .none).toNat ≤ 1 := Bool.toNat_le _
  have hnone : s.inq.countP isCall = 0 ∧ (callRunning s).toNat = 0 := by
    rcases hfree with hawait | hvalid
    · simp only [hawait, bne_self_eq_false, Bool.toNat_false] at hcalls
      omega
    · simp only [hvalid, Bool.toNat_true] at hcalls
      omega
  refine ⟨fun m hm => ?_, fun m hm => ?_⟩
  · exact Bool.eq_false_iff.mpr (List.countP_eq_zero.mp hnone.1 m hm)
  · rw [← callRunning_of_runningMsg hm]
    exact Bool.toNat_eq_zero.mp hnone.2

/-- With no call awaited, RPL holds no reply. -/
theorem TokensInv.no_reply {s : State} (h : TokensInv s) (hawait : s.eseq.await = .none) : s.rpl.valid = false := by
  have hcalls := h.calls
  simp only [hawait, bne_self_eq_false, Bool.toNat_false] at hcalls
  exact Bool.toNat_eq_zero.mp (by omega)

/-! #### The events of EQ that the running session can count on -/

/-- Nothing but EQ and x[E_SEEN] matters. -/
theorem hasTxEvent_congr {s t : State} (heq : t.eq = s.eq) (hseen : t.eseq.seen = s.eseq.seen) :
    HasTxEvent t ↔ HasTxEvent s := by
  rw [HasTxEvent, HasTxEvent, heq, hseen]

/-- From `s` to `t` no session comes to run, and one that runs loses no TX event of EQ. -/
def KeepsTxEvents (s t : State) : Prop :=
  sessionRuns t = true → sessionRuns s = true ∧ (HasTxEvent s → HasTxEvent t)

theorem KeepsTxEvents.trans {s t u : State} (h : KeepsTxEvents s t) (h' : KeepsTxEvents t u) : KeepsTxEvents s u :=
  fun hu => ⟨(h (h' hu).1).1, fun hs => (h' hu).2 ((h (h' hu).1).2 hs)⟩

/-- Nothing but EQ, x[E_SEEN], x[E_RUN] and x[E_SESSION] matters. -/
theorem keepsTxEvents_of_eq {s t : State} (heq : t.eq = s.eq := by rfl) (hrun : t.ectl.run = s.ectl.run := by rfl)
    (hsess : t.ectl.session = s.ectl.session := by rfl) (hseen : t.eseq.seen = s.eseq.seen := by rfl) :
    KeepsTxEvents s t := by
  intro hruns
  rw [sessionRuns_iff] at hruns ⊢
  rw [hrun, hsess, hseen] at hruns
  exact ⟨hruns, (hasTxEvent_congr heq hseen).mpr⟩

/-- A TX event is appended with the session that runs, so the sequencer that has seen it has its TX event (R197). -/
theorem hasTxEvent_postEq {e : Event} {s : State} (hk : e.kind ≠ .rxFrame) (hruns : sessionRuns s = true) :
    HasTxEvent (postEq e s) := by
  have hseen := ((sessionRuns_iff s).mp hruns).2
  rw [postEq_txEvent hk]
  exact ⟨⟨e.kind, s.ectl.session, []⟩, List.mem_append_right _ (List.mem_singleton_self _), hk, hseen.symm⟩

/-- PostEQ drops a TX event only for another one of the session that runs (R197). -/
theorem keepsTxEvents_postEq (e : Event) (s : State) : KeepsTxEvents s (postEq e s) := by
  intro hruns
  have hs : sessionRuns s = true := by simpa only [sessionRuns, postEq_ectl, postEq_eseq] using hruns
  refine ⟨hs, fun hhas => ?_⟩
  rcases postEq_cases e s with ⟨-, -, h⟩ | ⟨-, -, h⟩ | ⟨hk, -, -⟩ | ⟨hk, -, -⟩
  · obtain ⟨x, hx, hkind, hsess⟩ := hhas
    rw [h]
    exact ⟨x, List.mem_append_left _ hx, hkind, hsess⟩
  · rw [h]
    exact hhas
  · exact hasTxEvent_postEq hk hs
  · exact hasTxEvent_postEq hk hs

theorem keepsTxEvents_emit (e : Event) (s : State) : KeepsTxEvents s (emit e s) := by
  have hcopy : KeepsTxEvents s (postEvt e s) :=
    keepsTxEvents_of_eq (postEvt_eq e s) (by simp) (by simp) (by simp)
  rw [emit_spec]
  split
  · exact hcopy.trans (keepsTxEvents_postEq e _)
  · exact hcopy

/-- With the sequencer subscribed, an emitted TX event is one of its session (R175, R197). -/
theorem hasTxEvent_emit {e : Event} {s : State} (hk : e.kind ≠ .rxFrame) (hsub : s.subs.echo = true)
    (hruns : sessionRuns s = true) : HasTxEvent (emit e s) := by
  rw [emit_of_subscribed hsub]
  exact hasTxEvent_postEq hk (by simpa only [sessionRuns, postEvt_ectl, postEvt_eseq] using hruns)

theorem keepsTxEvents_respond (op : Byte) (st : Status) (v : Half) (s : State) :
    KeepsTxEvents s (respond op st v s) :=
  keepsTxEvents_of_eq (respond_eq op st v s) (by simp) (by simp) (by simp)

theorem keepsTxEvents_dropLink (s : State) : KeepsTxEvents s (dropLink s) :=
  keepsTxEvents_of_eq (by simp [dropLink]) (by simp [dropLink]) (by simp [dropLink]) (by simp [dropLink])

/-- ECHO_START's session is not the one the sequencer has seen, and ECHO_STOP leaves none running. -/
theorem ReplyUpd.keepsTxEvents {i : Instr} {k : Nat} {s u : State} (h : ReplyUpd i k s u) : KeepsTxEvents s u := by
  cases h with
  | disconnects =>
    exact keepsTxEvents_of_eq (by simp [disconnected]) (by simp [disconnected]) (by simp [disconnected])
      (by simp [disconnected])
  | sends n st kind => exact keepsTxEvents_emit _ s
  | starts lp ld delay plen hi hfresh =>
    intro hruns
    exact absurd ((sessionRuns_iff _).mp hruns).2.symm hfresh
  | stops =>
    unfold echoStopped
    split
    · intro hruns
      exact absurd ((sessionRuns_iff _).mp hruns).1 nofun
    · exact keepsTxEvents_of_eq
  | _ => exact keepsTxEvents_of_eq

theorem MsgStep.keepsTxEvents {m : Msg} {k : Nat} {s t : State} (h : MsgStep m k s t) : KeepsTxEvents s t := by
  have hpc (p : Pc) (u : State) : KeepsTxEvents u (setPc p u) := keepsTxEvents_of_eq
  obtain ⟨i, -, h⟩ | ⟨w, op, -, -, -⟩ | ⟨-, h⟩ | ⟨-, h⟩ := h
  · cases h with
    | replies op st v u hroom hu => exact hu.keepsTxEvents.trans ((keepsTxEvents_respond op st v u).trans (hpc _ _))
    | _ => exact keepsTxEvents_of_eq
  · exact (keepsTxEvents_respond _ _ _ s).trans (hpc _ _)
  · cases h with
    | emits => exact (keepsTxEvents_emit _ s).trans (hpc _ _)
    | _ => exact keepsTxEvents_of_eq
  · cases h <;> exact keepsTxEvents_of_eq

theorem keepsTxEvents_ioErrorEffect (op : Option Byte) (s : State) : KeepsTxEvents s (ioErrorEffect op s) := by
  have hpc (u : State) : KeepsTxEvents u (setPc .idle u) := keepsTxEvents_of_eq
  have hdrop := keepsTxEvents_dropLink s
  have hreply (o : Byte) := hdrop.trans (keepsTxEvents_respond o .ioError 0 (dropLink s))
  rw [ioErrorEffect_eq]
  refine KeepsTxEvents.trans ?_ (hpc _)
  rcases ioErrorBody_cases op s with ⟨-, hb⟩ | ⟨o, -, ⟨-, hb⟩ | ⟨-, hb⟩⟩ <;> rw [hb]
  · exact hdrop
  · exact hreply o
  · exact (hreply o).trans (keepsTxEvents_emit _ _)

/-! #### A TRANSMIT answers OK only together with its TX event -/

/-- An action's outcome from `s`, where it ends a TRANSMIT: a reply other than OK alone, or one with a TX event (R165,
R166). -/
def Flow.TellsTx (s : State) : Flow → Prop
  | .step _ => True
  | .goto _ _ => True
  | .hold => True
  | .done t => ∃ st u, t = respond 0x08 st 0 u ∧ ((st ≠ .ok ∧ u = s) ∨ ∃ e, e.kind ≠ .rxFrame ∧ u = emit e s)
  | .ioErr _ => True
  | .fault _ => True

/-- An action that answers OK only with a TX event. -/
def TellsTx (a : Act) : Prop := ∀ s, (a s).TellsTx s

theorem tellsTx_ite {c : State → Prop} {inst : DecidablePred c} {a b : Act} (ha : TellsTx a) (hb : TellsTx b) :
    TellsTx (fun s => if c s then a s else b s) := by
  intro s
  beta_reduce
  split
  · exact ha s
  · exact hb s

theorem tellsTx_need (ok : State → Bool) {st : Status} (hst : st ≠ .ok) : TellsTx (need ok 0x08 st) :=
  tellsTx_ite (fun _ => trivial) (tellsTx_ite (fun s => ⟨st, s, rfl, .inl ⟨hst, rfl⟩⟩) fun _ => trivial)

/-- A transfer, and what follows it where it does not fail. -/
theorem tellsTx_transfer (f : State → State) {a : Act} (ha : TellsTx a) :
    TellsTx (fun s => if spiErrNow s then .ioErr (f s) else a s) :=
  tellsTx_ite (fun _ => trivial) ha

theorem tellsTx_writeAct (reg : Config.RegMap → ChipAddr) (val : State → Byte) (upd : State → State) :
    TellsTx (writeAct reg val upd) :=
  tellsTx_transfer _ fun _ => trivial

theorem tellsTx_fifoAct (n : Nat) : TellsTx (fifoAct n) :=
  tellsTx_transfer _ (tellsTx_ite (fun _ => trivial) fun _ => trivial)

theorem tellsTx_txPollAct : TellsTx txPollAct :=
  tellsTx_ite (tellsTx_transfer _ (tellsTx_ite (fun _ => trivial) (tellsTx_ite (fun _ => trivial) fun _ => trivial)))
    fun _ => trivial

theorem tellsTx_txReplyAct (st : Status) {k : EventKind} (hk : k ≠ .rxFrame) : TellsTx (txReplyAct st k) :=
  tellsTx_ite (fun _ => ⟨st, _, rfl, .inr ⟨_, hk, rfl⟩⟩) fun _ => trivial

theorem tellsTx_transmitProg (n : Nat) : ∀ a ∈ transmitProg n, TellsTx a := by
  simp only [transmitProg, List.forall_mem_cons]
  exact ⟨tellsTx_need _ nofun, tellsTx_need _ nofun, tellsTx_writeAct _ _ _, tellsTx_writeAct _ _ _, tellsTx_fifoAct n,
    tellsTx_writeAct _ _ _, tellsTx_writeAct _ _ _, tellsTx_writeAct _ _ _, tellsTx_txPollAct, tellsTx_writeAct _ _ _,
    tellsTx_writeAct _ _ _, tellsTx_txReplyAct _ nofun, tellsTx_writeAct _ _ _, tellsTx_txReplyAct _ nofun, nofun⟩

/-- The last action of a transmit call in the running session: where it answers OK, its TX event is in EQ. -/
theorem hasTxEvent_of_transmit_done {n k : Nat} {m : Msg} {a : Act} {s t : State} {sess : Word}
    (ha : stepAt (transmitProg n) k = some a) (ht : (a s).exit m k = some t) (hidle : t.eng.pc = .idle)
    (ho : s.eng.origin = .echo sess) (hsub : s.subs.echo = true) (hruns : sessionRuns s = true)
    (hok : t.rpl.status = .ok) : HasTxEvent t := by
  have htells : (a s).TellsTx s := by
    cases k with
    | zero => cases ha
    | succ k => exact tellsTx_transmitProg n a (List.mem_of_getElem? ha) s
  rcases hs : a s with u | ⟨j, u⟩ | _ | u | u | r <;> rw [hs] at ht htells
  case hold | fault => cases ht
  case step | goto | ioErr =>
    obtain rfl := Option.some.inj ht
    cases hidle
  case done =>
    obtain rfl := Option.some.inj ht
    obtain ⟨st, v, rfl, ⟨hst, rfl⟩ | ⟨e, hk, rfl⟩⟩ := htells
    · rw [respond_toCall _ _ _ _ sess ho] at hok
      exact absurd hok hst
    · exact (hasTxEvent_congr (s := emit e s) (by simp) (by simp)).mpr (hasTxEvent_emit hk hsub hruns)

/-! #### Who changes RPL -/

theorem EdgeStep.rpl {k : Nat} {s t : State} (h : EdgeStep k s t) : t.rpl = s.rpl := by
  cases h with
  | emits => simp
  | _ => rfl

/-- A message that is no call leaves RPL alone (R221). -/
theorem MsgStep.rpl_of_not_call {m : Msg} {k : Nat} {s t : State} (h : MsgStep m k s t) (hf : Framed s t)
    (hm : runningMsg s = some m) (ho : originOk s = true) (hcall : isCall m = false) : t.rpl = s.rpl := by
  have hhost (hop : msgOpcode m ≠ none) : t.rpl = s.rpl := by
    have hfrom := (fromEcho_eq_isCall hm hop ho).trans hcall
    exact hf.rpl (by simpa [fromEcho] using hfrom)
  obtain ⟨i, hi, -⟩ | ⟨w, op, rfl, -, -⟩ | ⟨-, h⟩ | ⟨-, h⟩ := h
  · exact hhost (msgOpcode_of_msgInstr hi)
  · exact hhost nofun
  · exact h.rpl
  · cases h <;> rfl

/-- The IoError step answers IO_ERROR, if it answers a call at all (R226). -/
theorem ioErrorEffect_rpl (op : Option Byte) (s : State) :
    (ioErrorEffect op s).rpl = s.rpl ∨ (ioErrorEffect op s).rpl.status = .ioError := by
  have hdrop : (dropLink s).rpl = s.rpl := by simp [dropLink]
  have hreply (o : Byte) : (respond o .ioError 0 (dropLink s)).rpl = s.rpl ∨
      (respond o .ioError 0 (dropLink s)).rpl.status = .ioError := by
    rcases ho : (dropLink s).eng.origin with _ | sess
    · exact .inl (by rw [respond_toHost _ _ _ _ ho, hdrop])
    · exact .inr (by rw [respond_toCall _ _ _ _ sess ho])
  rw [ioErrorEffect_eq, setPc_rpl]
  rcases ioErrorBody_cases op s with ⟨-, hb⟩ | ⟨o, -, ⟨-, hb⟩ | ⟨-, hb⟩⟩ <;> rw [hb]
  · exact .inl hdrop
  · exact hreply o
  · rw [emit_rpl]
    exact hreply o

/-! #### The engine -/

theorem TxEventDue.of_rpl {s t : State} (h : TxEventDue t) (hseq : t.eseq = s.eseq) (hrpl : t.rpl = s.rpl) :
    TxEventDue s := by
  rwa [TxEventDue, hseq, hrpl] at h

/-- A turn's part that leaves the frame alone and the message running or ended keeps the invariant, where an OK reply
that it brings comes with its TX event. -/
theorem waitEndsOk_of_framed {m : Msg} {s t : State} (hm : runningMsg s = some m) (hf : Framed s t)
    (hpc : EndsOrRuns m s t) (hkeeps : KeepsTxEvents s t)
    (hreply : TxEventDue t → sessionRuns s = true → TxEventDue s ∨ HasTxEvent t) (h : WaitEndsOk s) :
    WaitEndsOk t := by
  rw [waitEndsOk_iff] at h ⊢
  obtain ⟨hcalls, hends⟩ := h
  refine ⟨hcalls.of_sub (by rw [hf.eseq]) (by rw [hf.eseq]) (fun x hx => .inl (hf.inq ▸ hx)) ?_, fun hdue hruns => ?_⟩
  · intro x hx
    rcases hpc with ⟨hrun, -⟩ | ⟨hidle, -⟩
    · exact .inl (hm.trans (hrun.symm.trans hx))
    · simp only [runningMsg, hidle, reduceCtorEq] at hx
  · obtain ⟨hs, hevents⟩ := hkeeps hruns
    rcases hreply hdue hs with hdue | hevent
    · exact hevents (hends hdue hs)
    · exact hevent

/-- An OK reply to the transmit call that is awaited comes from its last action. -/
theorem txEventDue_of_act {m : Msg} {k : Nat} {a : Act} {s t : State} (ha : stepAt (msgProg s.cfg m) k = some a)
    (hpc : s.eng.pc = .run m k) (ht : (a s).exit m k = some t) (htok : TokensInv s) (hecho : EchoOk s)
    (hcalls : CallsMatch s) (hdue : TxEventDue t) (hruns : sessionRuns s = true) : TxEventDue s ∨ HasTxEvent t := by
  have hm : runningMsg s = some m := by simp only [runningMsg, hpc]
  have hf : Framed s t := ((regularProg_msgProg s.cfg m).regular ha).framed_exit ht
  have hstep := msgStep_of_exit ha ht
  rcases hstep.endsOrRuns hpc htok.origin with ⟨-, hrpl⟩ | ⟨hidle, -⟩
  · exact .inl (hdue.of_rpl hf.eseq hrpl)
  cases hc : isCall m
  · exact .inl (hdue.of_rpl hf.eseq (hstep.rpl_of_not_call hf hm htok.origin hc))
  rcases hdue with hstate | ⟨hxmit, -, hok⟩
  · exact .inl (.inl (hf.eseq ▸ hstate))
  rw [hf.eseq] at hxmit
  have hmatch := hcalls.running m hm
  rcases m with w | ⟨_ | _, arg, sess⟩ | _ | _
  case ecall.receiveMode => simp [callMatches, hxmit] at hmatch
  case ecall.transmit =>
    have ho : s.eng.origin = .echo sess := by simpa [originOk, hm] using htok.origin
    have hsub : s.subs.echo = true := by
      rw [← ((echoOk_iff s).mp hecho).1]
      exact ((sessionRuns_iff s).mp hruns).1
    exact .inr (hasTxEvent_of_transmit_done ha ht hidle ho hsub hruns hok)
  all_goals cases hc

theorem waitEndsOk_act {m : Msg} {k : Nat} {a : Act} {s t : State} (ha : stepAt (msgProg s.cfg m) k = some a)
    (hpc : s.eng.pc = .run m k) (ht : (a s).exit m k = some t) (htok : TokensInv s) (hecho : EchoOk s)
    (h : WaitEndsOk s) : WaitEndsOk t := by
  have hstep := msgStep_of_exit ha ht
  exact waitEndsOk_of_framed (by simp only [runningMsg, hpc])
    (((regularProg_msgProg s.cfg m).regular ha).framed_exit ht) (hstep.endsOrRuns hpc htok.origin)
    hstep.keepsTxEvents (txEventDue_of_act ha hpc ht htok hecho ((waitEndsOk_iff s).mp h).1) h

theorem waitEndsOk_ioErrorEffect {m : Msg} {s : State} (hpc : s.eng.pc = .failed m) (htok : TokensInv s)
    (h : WaitEndsOk s) : WaitEndsOk (ioErrorEffect (msgOpcode m) s) := by
  have hm : runningMsg s = some m := by simp only [runningMsg, hpc]
  have hf : Framed s (ioErrorEffect (msgOpcode m) s) := by
    rw [ioErrorEffect_eq]
    exact ((regularUpd_ioErrorBody _).frame s).trans (framed_setPc _ _)
  refine waitEndsOk_of_framed hm hf (ioErrorEffect_endsOrRuns hm htok.origin) (keepsTxEvents_ioErrorEffect _ s)
    (fun hdue _ => .inl ?_) h
  rcases ioErrorEffect_rpl (msgOpcode m) s with hrpl | hstatus
  · exact hdue.of_rpl hf.eseq hrpl
  · rcases hdue with hstate | ⟨-, -, hok⟩
    · exact .inl (hf.eseq ▸ hstate)
    · exact absurd (hstatus.symm.trans hok) nofun

theorem waitEndsOk_take {m : Msg} {rest : List Msg} {s : State} (hq : s.inq = m :: rest) (h : WaitEndsOk s) :
    WaitEndsOk (take m rest s) := by
  have hkeeps : KeepsTxEvents s (take m rest s) :=
    keepsTxEvents_of_eq (by simp) (by simp) (by simp) (by simp)
  have hinq : (take m rest s).inq = rest := by cases m <;> rfl
  rw [waitEndsOk_iff] at h ⊢
  obtain ⟨hcalls, hends⟩ := h
  refine ⟨hcalls.of_sub (by simp) (by simp) (fun x hx => .inl ?_) (fun x hx => .inr ?_), fun hdue hruns => ?_⟩
  · rw [hq]
    exact List.mem_cons_of_mem m (hinq ▸ hx)
  · simp only [runningMsg, take_eng_pc, Option.some.injEq] at hx
    rw [hq, ← hx]
    exact List.mem_cons_self
  · obtain ⟨hs, hevents⟩ := hkeeps hruns
    exact hevents (hends (hdue.of_rpl (by simp) (by simp)) hs)

/-! #### The agents beside the engine and the sequencer -/

/-- An agent that posts no call and leaves EQ, RPL and the sequencer's state alone. -/
structure LeavesCalls (s t : State) : Prop extends LeavesEngine s t where
  inq : ∀ m ∈ t.inq, m ∈ s.inq ∨ isCall m = false := by exact fun _ hm => .inl hm
  eq : t.eq = s.eq := by rfl
  rpl : t.rpl = s.rpl := by rfl
  state : t.eseq.state = s.eseq.state := by rfl
  await : t.eseq.await = s.eseq.await := by rfl
  seen : t.eseq.seen = s.eseq.seen := by rfl
  callSess : t.eseq.callSess = s.eseq.callSess := by rfl

theorem LeavesCalls.waitEndsOk {s t : State} (hl : LeavesCalls s t) (h : WaitEndsOk s) : WaitEndsOk t := by
  have hrun : runningMsg t = runningMsg s := by simp only [runningMsg, hl.pc]
  have hkeeps : KeepsTxEvents s t := keepsTxEvents_of_eq hl.eq (by rw [hl.ectl]) (by rw [hl.ectl]) hl.seen
  rw [waitEndsOk_iff] at h ⊢
  obtain ⟨hcalls, hends⟩ := h
  refine ⟨hcalls.of_sub hl.await hl.callSess hl.inq (fun m hm => .inl (hrun ▸ hm)), fun hdue hruns => ?_⟩
  rw [TxEventDue, hl.state, hl.await, hl.rpl] at hdue
  obtain ⟨hs, hevents⟩ := hkeeps hruns
  exact hevents (hends hdue hs)

/-- INQ with a token or a host command more. -/
theorem mem_or_not_call {q : List Msg} {x : Msg} (hx : isCall x = false) :
    ∀ m ∈ q ++ [x], m ∈ q ∨ isCall m = false := by
  intro m hm
  rcases List.mem_append.mp hm with hq | hnew
  · exact .inl hq
  · exact .inr (List.mem_singleton.mp hnew ▸ hx)

theorem leavesCalls_timerTick (s : State) : LeavesCalls s (timerTick s) := by
  have hl := leavesEngine_timerTick s
  rw [timerTick_eq] at hl ⊢
  refine { hl with inq := ?_ }
  rcases tickRxSingle_cases s with ⟨-, hq, -⟩ | ⟨-, hq, -⟩ <;> simp only [hq]
  · exact fun _ hm => .inl hm
  · split
    · exact fun _ hm => .inl hm
    · exact mem_or_not_call rfl

theorem leavesCalls_routeEdge (s : State) : LeavesCalls s (routeEdge s) := by
  have hl := leavesEngine_routeEdge s
  rcases routeEdge_cases s with ⟨-, he⟩ | ⟨-, he⟩ | ⟨-, he⟩ <;> rw [he] at hl ⊢
  · exact { hl with }
  · exact { hl with }
  · exact { hl with inq := mem_or_not_call rfl }

theorem leavesCalls_edgeTurn (s : State) : LeavesCalls s (edgeTurn s) := by
  rcases edgeTurn_cases s with he | he <;> rw [he]
  · exact leavesCalls_routeEdge s
  · exact {}

theorem waitEndsOk_clkTurn (b : Bool) {s : State} (h : WaitEndsOk s) : WaitEndsOk (clkTurn b s) := by
  have hshift : WaitEndsOk (shiftDio b s) := h
  rcases clkTurn_cases b s with he | he <;> rw [he]
  · exact (leavesCalls_routeEdge _).waitEndsOk hshift
  · exact hshift

theorem leavesCalls_hostWrite (a : BusAddr) (d : Word) (s : State) : LeavesCalls s (hostWrite a d s) := by
  rcases hostWrite_cases a d s with ⟨-, -, he⟩ | ⟨_, he⟩ | ⟨_, -, he⟩ <;> rw [he]
  · exact {}
  · exact {}
  · exact { inq := mem_or_not_call rfl }

theorem leavesCalls_hostRead (a : BusAddr) (s : State) : LeavesCalls s (hostRead a s) := by
  obtain ⟨_, _, _, _, -, -, he⟩ := hostRead_cases a s
  rw [he]
  exact {}

theorem waitEndsOk_blockReset (s : State) : WaitEndsOk (blockReset s) :=
  ⟨List.forall_mem_nil _, rfl, nofun, nofun⟩

/-! #### The sequencer -/

/-- Where no call is queued or executing, the promised TX event is all there is to keep. -/
theorem waitEndsOk_of_no_call {s t : State} (hl : LeavesEngine s t) (hinq : t.inq = s.inq) (htok : TokensInv s)
    (hfree : s.eseq.await = .none ∨ s.rpl.valid = true)
    (hends : TxEventDue t → sessionRuns t = true → HasTxEvent t) : WaitEndsOk t := by
  have hrun : runningMsg t = runningMsg s := by simp only [runningMsg, hl.pc]
  obtain ⟨hqueued, hrunning⟩ := htok.no_call hfree
  rw [waitEndsOk_iff]
  exact ⟨⟨fun m hm => callMatches_of_not_call (hqueued m (hinq ▸ hm)) t,
    fun m hm => callMatches_of_not_call (hrunning m (hrun ▸ hm)) t⟩, hends⟩

/-- With no call awaited, only the wait itself makes a TX event due. -/
theorem TxEventDue.waiting {s : State} (h : TxEventDue s) (hfree : s.eseq.await = .none) :
    s.eseq.state = .waitingTxDone := by
  rcases h with hstate | ⟨hxmit, -, -⟩
  · exact hstate
  · exact absurd (hfree.symm.trans hxmit) nofun

theorem consumeReply_seen (s : State) : (consumeReply s).eseq.seen = s.eseq.seen := by
  unfold consumeReply onRecvReply onXmitReply loadArm
  split
  · split
    · rfl
    · split <;> rfl
    · split <;> rfl
  · rfl

/-- A consumed reply leads to WaitingTxDone from there, or as the OK reply of a transmit call (R201 to R203). -/
theorem txEventDue_of_consumeReply {s : State} (hawait : s.eseq.await ≠ .none) (hvalid : s.rpl.valid = true)
    (hwaiting : (consumeReply s).eseq.state = .waitingTxDone) : TxEventDue s := by
  by_cases hcurrent : s.ectl.run = true ∧ s.ectl.session = s.eseq.callSess
  · obtain ⟨hrun, hsess⟩ := hcurrent
    rcases hw : s.eseq.await
    · exact absurd hw hawait
    · rw [consumeReply_of_recv hrun hsess hw] at hwaiting
      refine .inl ?_
      split at hwaiting <;> exact hwaiting
    · rw [consumeReply_of_xmit hrun hsess hw] at hwaiting
      split at hwaiting
      · exact .inr ⟨hw, hvalid, ‹_›⟩
      · cases hwaiting
  · rw [not_and_or, Bool.not_eq_true] at hcurrent
    rw [consumeReply_of_stale hcurrent] at hwaiting
    exact .inl hwaiting

theorem waitEndsOk_consumeReply {s : State} (htok : TokensInv s) (hawait : s.eseq.await ≠ .none)
    (hvalid : s.rpl.valid = true) (hl : LeavesEngine s (consumeReply s)) (h : WaitEndsOk s) :
    WaitEndsOk (consumeReply s) := by
  have hends := ((waitEndsOk_iff s).mp h).2
  have hkeeps : KeepsTxEvents s (consumeReply s) :=
    keepsTxEvents_of_eq (by rw [consumeReply_eq]) (by rw [hl.ectl]) (by rw [hl.ectl]) (consumeReply_seen s)
  refine waitEndsOk_of_no_call hl (by rw [consumeReply_eq]) htok (.inr hvalid) fun hdue hruns => ?_
  obtain ⟨hs, hevents⟩ := hkeeps hruns
  exact hevents (hends (txEventDue_of_consumeReply hawait hvalid (hdue.waiting (consumeReply_await s))) hs)

/-- A posted call is the awaited one, and RPL holds no reply to it yet (R199, R200). -/
theorem waitEndsOk_posts {s t : State} {m : Msg} (hl : LeavesEngine s t) (hinq : t.inq = s.inq ++ [m])
    (hmatch : callMatches t m = true) (heq : t.eq = s.eq) (hrpl : t.rpl = s.rpl)
    (hstate : t.eseq.state = s.eseq.state) (hseen : t.eseq.seen = s.eseq.seen) (htok : TokensInv s)
    (hfree : s.eseq.await = .none) (h : WaitEndsOk s) : WaitEndsOk t := by
  have hrun : runningMsg t = runningMsg s := by simp only [runningMsg, hl.pc]
  have hkeeps : KeepsTxEvents s t := keepsTxEvents_of_eq heq (by rw [hl.ectl]) (by rw [hl.ectl]) hseen
  obtain ⟨hqueued, hrunning⟩ := htok.no_call (.inl hfree)
  have hends := ((waitEndsOk_iff s).mp h).2
  rw [waitEndsOk_iff]
  refine ⟨⟨fun x hx => ?_, fun x hx => callMatches_of_not_call (hrunning x (hrun ▸ hx)) t⟩, fun hdue hruns => ?_⟩
  · rw [hinq] at hx
    rcases List.mem_append.mp hx with hold | hnew
    · exact callMatches_of_not_call (hqueued x hold) t
    · exact List.mem_singleton.mp hnew ▸ hmatch
  · obtain ⟨hs, hevents⟩ := hkeeps hruns
    rcases hdue with hwaiting | ⟨-, hvalid, -⟩
    · exact hevents (hends (.inl (hstate ▸ hwaiting)) hs)
    · rw [hrpl, htok.no_reply hfree] at hvalid
      cases hvalid

theorem waitEndsOk_armExpiry {s : State} (htok : TokensInv s) (hfree : s.eseq.await = .none)
    (hl : LeavesEngine s (armExpiry s)) (h : WaitEndsOk s) : WaitEndsOk (armExpiry s) := by
  rcases armExpiry_cases s with ⟨-, he⟩ | he <;> rw [he] at hl ⊢
  · exact waitEndsOk_posts hl rfl (by simp [callMatches]) rfl rfl rfl rfl htok hfree h
  · exact LeavesCalls.waitEndsOk { hl with } h

theorem waitEndsOk_echoExpiry {s : State} (htok : TokensInv s) (hfree : s.eseq.await = .none)
    (hl : LeavesEngine s (echoExpiry s)) (h : WaitEndsOk s) : WaitEndsOk (echoExpiry s) := by
  rcases echoExpiry_cases s with ⟨-, he⟩ | he <;> rw [he] at hl ⊢
  · exact waitEndsOk_posts hl rfl (by simp [callMatches]) rfl rfl rfl rfl htok hfree h
  · exact LeavesCalls.waitEndsOk { hl with } h

/-- The head of EQ that is no TX event of the session is not the one that is waited for. -/
theorem hasTxEvent_tail {x : EqEntry} {rest : List EqEntry} {s : State} (hq : s.eq = x :: rest)
    (hother : x.session ≠ s.eseq.seen ∨ x.kind = .rxFrame) (h : HasTxEvent s) :
    HasTxEvent { s with eq := rest } := by
  obtain ⟨y, hy, hk, hsess⟩ := h
  rw [hq] at hy
  rcases List.mem_cons.mp hy with rfl | hrest
  · rcases hother with hne | hframe
    · exact absurd hsess hne
    · exact absurd hframe hk
  · exact ⟨y, hrest, hk, hsess⟩

/-- A sequencer that still waits after EQ's head was taken has not moved, and the head was not the TX event that it
waits for (R196, R198, R204). -/
theorem handleEqHead_waiting {s : State} (h : (handleEqHead s).eseq.state = .waitingTxDone) :
    (handleEqHead s).eseq = s.eseq ∧ (HasTxEvent s → HasTxEvent (handleEqHead s)) := by
  rcases hq : s.eq with _ | ⟨x, rest⟩
  · have hsame : handleEqHead s = s := by simp only [handleEqHead, hq]
    rw [hsame]
    exact ⟨rfl, id⟩
  by_cases hskip : s.eseq.state = .idle ∨ x.session ≠ s.eseq.seen
  · rw [handleEqHead_discards hq hskip] at h ⊢
    have hstate : s.eseq.state = .waitingTxDone := h
    exact ⟨rfl, hasTxEvent_tail hq (.inl (hskip.resolve_left (by rw [hstate]; nofun)))⟩
  rw [not_or, not_not] at hskip
  obtain ⟨hbusy, hsess⟩ := hskip
  by_cases hk : x.kind = .rxFrame
  · rw [handleEqHead_frame hq hbusy hsess hk] at h ⊢
    by_cases hlisten : s.eseq.state = .listening
    · rw [onRxFrame_of_listening (s := { s with eq := rest }) hlisten] at h
      cases h
    · rw [onRxFrame_of_not_listening (s := { s with eq := rest }) hlisten]
      exact ⟨rfl, hasTxEvent_tail hq (.inr hk)⟩
  · rw [handleEqHead_txEvent hq hbusy hsess hk] at h
    by_cases hwait : s.eseq.state = .waitingTxDone
    · rw [onTxEvent_of_waiting (s := { s with eq := rest }) hwait] at h
      cases h
    · rw [onTxEvent_of_not_waiting (s := { s with eq := rest }) hwait] at h
      exact absurd h hwait

theorem waitEndsOk_handleEqHead {s : State} (htok : TokensInv s) (hfree : s.eseq.await = .none)
    (hl : LeavesEngine s (handleEqHead s)) (h : WaitEndsOk s) : WaitEndsOk (handleEqHead s) := by
  obtain ⟨hinq, -, -, hawait⟩ := handleEqHead_tokens s
  have hends := ((waitEndsOk_iff s).mp h).2
  refine waitEndsOk_of_no_call hl hinq htok (.inl hfree) fun hdue hruns => ?_
  have hwaiting := hdue.waiting (hawait.trans hfree)
  obtain ⟨hseq, hevents⟩ := handleEqHead_waiting hwaiting
  refine hevents (hends (.inl (hseq ▸ hwaiting)) ?_)
  simpa only [sessionRuns, hseq, hl.ectl] using hruns

/-- Every step of the sequencer keeps the invariant: START and STOP leave WaitingTxDone (R193, R194). -/
theorem waitEndsOk_echoStep (pick : Config.EchoPick) {s : State} (htok : TokensInv s) (h : WaitEndsOk s) :
    WaitEndsOk (echoStep pick s) := by
  have hl := (leavesHostSide_echoStep pick s).toLeavesEngine
  have hidle {t : State} (hlt : LeavesEngine s t) (hinq : t.inq = s.inq) (hfree : s.eseq.await = .none)
      (hawait : t.eseq.await = s.eseq.await) (hstate : t.eseq.state ≠ .waitingTxDone) : WaitEndsOk t :=
    waitEndsOk_of_no_call hlt hinq htok (.inl hfree) fun hdue _ => absurd (hdue.waiting (hawait.trans hfree)) hstate
  rcases echoStep_cases pick s with he | ⟨hawait, hvalid, he⟩ | ⟨hfree, -, -, he⟩ | ⟨hfree, -, he⟩ |
    ⟨hfree, -, he | he | he⟩ <;> rw [he] at hl ⊢
  · exact h
  · exact waitEndsOk_consumeReply htok hawait hvalid hl h
  · exact hidle hl rfl hfree rfl nofun
  · exact hidle hl rfl hfree rfl nofun
  · exact waitEndsOk_armExpiry htok hfree hl h
  · exact waitEndsOk_echoExpiry htok hfree hl h
  · exact waitEndsOk_handleEqHead htok hfree hl h

/-! #### Every step -/

/-- `WaitEndsOk` with the invariants that keep it. -/
structure WaitInv (s : State) : Prop where
  tokens : TokensInv s
  echo : EchoOk s
  wait : WaitEndsOk s

theorem waitInv_stepKeeps : StepKeeps WaitInv where
  env e s h := ⟨tokensInv_stepKeeps.env e s h.tokens, h.echo, h.wait⟩
  taken m rest s hpc hq h :=
    ⟨tokensInv_stepKeeps.taken m rest s hpc hq h.tokens, echoOk_stepKeeps.taken m rest s hpc hq h.echo,
      waitEndsOk_take hq h.wait⟩
  act m k a s t ha hpc h ht :=
    ⟨tokensInv_stepKeeps.act m k a s t ha hpc h.tokens ht, echoOk_stepKeeps.act m k a s t ha hpc h.echo ht,
      waitEndsOk_act ha hpc ht h.tokens h.echo h.wait⟩
  ioErr m s hpc hr h :=
    ⟨tokensInv_stepKeeps.ioErr m s hpc hr h.tokens, echoOk_stepKeeps.ioErr m s hpc hr h.echo,
      waitEndsOk_ioErrorEffect hpc h.tokens h.wait⟩
  tick s h :=
    ⟨tokensInv_stepKeeps.tick s h.tokens, echoOk_stepKeeps.tick s h.echo, (leavesCalls_timerTick s).waitEndsOk h.wait⟩
  echo p s h :=
    ⟨tokensInv_stepKeeps.echo p s h.tokens, echoOk_stepKeeps.echo p s h.echo, waitEndsOk_echoStep p h.tokens h.wait⟩
  edge s h :=
    ⟨tokensInv_stepKeeps.edge s h.tokens, echoOk_stepKeeps.edge s h.echo, (leavesCalls_edgeTurn s).waitEndsOk h.wait⟩
  clk b s h :=
    ⟨tokensInv_stepKeeps.clk b s h.tokens, echoOk_stepKeeps.clk b s h.echo, waitEndsOk_clkTurn b h.wait⟩
  hostWrite a d s h :=
    ⟨tokensInv_stepKeeps.hostWrite a d s h.tokens, echoOk_stepKeeps.hostWrite a d s h.echo,
      (leavesCalls_hostWrite a d s).waitEndsOk h.wait⟩
  hostRead a s h :=
    ⟨tokensInv_stepKeeps.hostRead a s h.tokens, echoOk_stepKeeps.hostRead a s h.echo,
      (leavesCalls_hostRead a s).waitEndsOk h.wait⟩
  reset s h :=
    ⟨tokensInv_stepKeeps.reset s h.tokens, echoOk_stepKeeps.reset s h.echo, waitEndsOk_blockReset s⟩

end Sys2Proof.Machine

namespace Sys2Proof.Proofs

open Sys2Proof.Machine Sys2Proof.Safety

/-- Settles O56: an OK reply of a transmit call comes with its TX event, and neither PostEQ nor the sequencer takes the
last one of a session that waits. -/
theorem stepKeepsWaitingTxDoneLive : Obligations.StepKeepsWaitingTxDoneLive := fun s _ _ htok hecho hwait h =>
  (waitInv_stepKeeps.step ⟨(tokensInv_iff s).mpr htok, hecho, hwait⟩ h).wait

end Sys2Proof.Proofs
end

/-! ### The IoError step, field by field -/

section

namespace Sys2Proof.Machine

/-- What IoError does for a token, which has no answer and no event (R226): what DISCONNECT does, with x[PC] at IDLE and
x[TXP] at 0. -/
theorem ioErrorEffect_token (s : State) :
    ioErrorEffect none s =
      let closed : State := if s.eng.handles then
        { s with
          pins := { cs := .released, rst := .released, sclk := .released, mosi := .released }
          bus := s.bus ++ [.pin .cs .released, .pin .reset .released, .pin .mosi .released, .pin .sclk .released] }
        else s
      { closed with
        eng := { s.eng with pc := .idle, handles := false, connected := false, mode := .unknown }
        rxs := { s.rxs with cnt := 0, fired := false }
        tx := { s.tx with pending := false } } := by
  have hdisconnects : ioErrorEffect none s =
      { disconnected s with
        eng := { (disconnected s).eng with pc := .idle }
        tx := { (disconnected s).tx with pending := false } } := rfl
  rw [hdisconnects, disconnected_eq]
  cases s.eng.handles <;> rfl

section
variable {s : State}

/-- A command outside its TX wait: what a token's IoError does, and the answer (R226). -/
theorem ioErrorEffect_command (op : Byte) (hp : s.tx.pending = false) :
    ioErrorEffect (some op) s = respond op .ioError 0 (ioErrorEffect none s) := by
  simp [ioErrorEffect, hp]

/-- A command in its TX wait: what a token's IoError does, the answer, and the TX_ERROR event (R226). -/
theorem ioErrorEffect_txWaiting (op : Byte) (hp : s.tx.pending = true) :
    ioErrorEffect (some op) s =
      emit (txEvent .txError .ioError (fromEcho s)) (respond op .ioError 0 (ioErrorEffect none s)) := by
  simp [ioErrorEffect, hp]

/-- With room for its answer a command's IoError is taken (R221). -/
theorem ioErrorStep_taken (op : Byte) (m : Msg) (hroom : canReply s = true) :
    ioErrorStep (some op) m s = ioErrorEffect (some op) s :=
  if_pos hroom

/-- With RSPQ full a host command's IoError waits at the failed transfer (R221, log 10). -/
theorem ioErrorStep_waits (op : Byte) (m : Msg) (hfull : canReply s = false) :
    ioErrorStep (some op) m s = setPc (.failed m) s :=
  if_neg (by simpa [ioErrorReady] using hfull)

end

end Sys2Proof.Machine

namespace Sys2Proof.Proofs

open Sys2Proof.Machine

/-- Settles O10: IoError first does what it does for a token; the answer and the TX_ERROR event come on top of that. -/
theorem ioErrorUndoesTheLink : Obligations.IoErrorUndoesTheLink := by
  intro s closed down
  have hdown : ioErrorEffect none s = down := ioErrorEffect_token s
  refine ⟨fun _ => hdown, fun op m hroom hp => ?_, fun op m hroom hp => ?_, fun op m hfull => ?_⟩
  · rw [ioErrorStep_taken op m hroom, ioErrorEffect_command op hp, hdown]
  · rw [ioErrorStep_taken op m hroom, ioErrorEffect_txWaiting op hp, hdown]
    rfl
  · exact ioErrorStep_waits op m hfull

end Sys2Proof.Proofs
end

/-! ### Reset -/

section

namespace Sys2Proof.Machine

open Sys2Proof.Safety

/-! #### The reset state and the invariants -/

theorem storageOk_reset : StorageOk State.reset :=
  ⟨by decide, reset_txbuf_wf, Nat.zero_le _, Nat.zero_le _, Nat.zero_le _, Nat.zero_le _,
    fun hfull => absurd hfull (by decide), List.forall_mem_nil _, by decide, List.length_replicate, List.length_replicate⟩

/-- With the handles closed and nothing on the bus, the link is as R27 and R106 want it. -/
theorem linkInv_reset : LinkInv State.reset := ⟨linkCore_closed rfl rfl rfl rfl rfl rfl rfl, rfl⟩

/-- With x[TXP] clear and the mode unknown, no TX wait is claimed. -/
theorem txOk_reset : TxOk State.reset := ⟨by decide, rfl⟩

/-- INQ is empty with no token's flag set, and no call is awaited. -/
theorem tokensOk_reset : TokensOk State.reset := ⟨rfl, rfl, rfl, rfl⟩

/-! #### The registers after a block reset -/

/-- The bounds of R8 that the reset images need: room for a command in INQ, and for "ECHO:" in x[E_PREFIX]. -/
theorem legal_bounds {p : Config.Params} (h : p.legal = true) : 1 ≤ p.cmdqDepth ∧ 5 ≤ p.prefixMax := by
  simp only [Config.Params.legal, Bool.and_eq_true, decide_eq_true_eq] at h
  omega

/-- x[E_PREFIX] at reset, with room for the reset string (R39, log 15). -/
theorem resetPrefix_eq {n : Nat} (h : 5 ≤ n) :
    resetPrefix n = [0x45, 0x43, 0x48, 0x4F, 0x3A] ++ List.replicate (n - 5) 0 := by
  obtain ⟨m, rfl⟩ := Nat.exists_eq_add_of_le' h
  simp only [resetPrefix, bind_pure_comp, List.map_eq_map]
  simp

/-- Past the reset string x[E_PREFIX] reads 0, up to PREFIX_MAX and beyond it (log 15). -/
theorem resetPrefix_getD {n : Nat} (h : 5 ≤ n) (i : Nat) :
    (resetPrefix n).getD i 0 = [0x45, 0x43, 0x48, 0x4F, 0x3A].getD i 0 := by
  rw [resetPrefix_eq h]
  rcases Nat.lt_or_ge i 5 with hi | hi
  · exact List.getD_append _ _ _ _ hi
  · rw [List.getD_append_right _ _ _ _ hi, List.getD_eq_getElem?_getD, List.getElem?_getD_replicate_default_eq,
      List.getD_eq_default _ _ hi]

/-- ECHO_PREFIX[k] after a block reset does not depend on PREFIX_MAX (R41). -/
theorem echoPrefixWord_blockReset {s : State} (h : 5 ≤ s.cfg.prefixMax) (k : Nat) :
    echoPrefixWord (blockReset s).ectl.pfx k = echoPrefixWord State.reset.ectl.pfx k := by
  have hbyte (i : Nat) : (blockReset s).ectl.pfx.getD i 0 = State.reset.ectl.pfx.getD i 0 :=
    (resetPrefix_getD h i).trans (resetPrefix_getD (n := 32) (by decide) i).symm
  simp only [echoPrefixWord, hbyte]

/-- An empty INQ is not full, with room for one command at least (R25). -/
theorem statusWord_blockReset {s : State} (h : 1 ≤ s.cfg.cmdqDepth) :
    statusWord (blockReset s) = statusWord State.reset := by
  have hfull : cmdFull (blockReset s) = cmdFull State.reset :=
    beq_false_of_ne (show 0 ≠ s.cfg.cmdqDepth by omega)
  simp only [statusWord, hfull]
  rfl

/-- After a block reset under legal parameters every CSR reads what it reads in the reset state (R240). -/
theorem csrValue_blockReset {s : State} (hlegal : s.cfg.legal = true) (off : Nat) :
    csrValue (blockReset s) off = csrValue State.reset off := by
  obtain ⟨hcmdq, hprefix⟩ := legal_bounds hlegal
  unfold csrValue
  split
  case h_2 => exact statusWord_blockReset hcmdq
  case h_17 | h_18 | h_19 | h_20 | h_21 | h_22 | h_23 | h_24 => exact echoPrefixWord_blockReset hprefix _
  all_goals rfl

/-- The CSRs without an image of their own in R240 read 0. -/
theorem csrValue_reset_other {off : Nat}
    (hoff : off ∉ [0x000, 0x004, 0x028, 0x02C, 0x030, 0x034, 0x080, 0x084]) : csrValue State.reset off = 0 := by
  unfold csrValue
  split
  case h_1 | h_2 | h_9 | h_10 | h_11 | h_12 | h_17 | h_18 => exact absurd (by decide) hoff
  all_goals decide

/-- TXBUF's memory is empty after a block reset: each byte is a free value of the new epoch (R38, log 6). -/
theorem txByte_blockReset (s : State) (j : Nat) :
    txByte (blockReset s) j = Config.freeTxByte (s.env.txEpoch + 1) j := rfl

end Sys2Proof.Machine

namespace Sys2Proof.Proofs

open Sys2Proof.Machine Sys2Proof.Safety

/-- Settles O59, invariant by invariant. The reset state is a block reset's own result but for the environment, which
the invariants of the sequencer and of the shadow do not look at. -/
theorem resetMeetsInvariants : Obligations.ResetMeetsInvariants := by
  obtain ⟨hlink, hhist⟩ := (linkInv_iff _).mp linkInv_reset
  exact ⟨storageOk_reset, hlink, hhist, txOk_reset, tokensOk_reset,
    echoOk_blockReset State.reset, waitEndsOk_blockReset State.reset, shadowOk_blockReset State.reset, rfl⟩

/-- Settles O60: the CSRs read as in the reset state, where their images are computed; the rest is the table of R240
field by field. -/
theorem blockResetLeavesTheResetState : Obligations.BlockResetLeavesTheResetState := by
  intro s hlegal t
  have hcsr (off : Nat) : csrValue t off = csrValue State.reset off := csrValue_blockReset hlegal off
  simp only [hcsr]
  exact ⟨by decide, by decide, by decide, by decide, by decide, by decide, by decide, by decide,
    fun _ hoff => csrValue_reset_other hoff, rfl, rfl, rfl, rfl, rfl, rfl, rfl, rfl, rfl,
    length_resetPrefix s.cfg.prefixMax, rfl, rfl, txByte_blockReset s⟩

end Sys2Proof.Proofs
end

/-! ### ECHO_START on a session alias -/

section

namespace Sys2Proof.Machine

open Sys2Proof.Safety

/-- An action that faults stops the run, whatever is left of the quantum. -/
theorem runActs_fault {op : Option Byte} {prog : List Act} {m : Msg} {n k : Nat} {s : State} {a : Act} {r : Fault}
    (ha : stepAt prog k = some a) (h : a s = .fault r) : runActs op prog m (n + 1) k s = .fault r := by
  simp [runActs, ha, h]

/-- Step 5 of ECHO_START, where the new session is the one last applied (U20, log 14). -/
theorem echoStartAct_aliases {s : State} (halias : s.ectl.session + 1 = s.eseq.seen) (hroom : canReply s = true) :
    echoStartAct s = .fault .sessionAlias :=
  if_pos (by rw [hroom, decide_eq_true halias, Bool.and_self])

end Sys2Proof.Machine

namespace Sys2Proof.Proofs

open Sys2Proof.Machine Sys2Proof.Safety

/-- Settles O30: at its last action, with room for the reply, ECHO_START meets the alias and the run stops there. -/
theorem echoStartStopsOnSessionAlias : Obligations.EchoStartStopsOnSessionAlias := by
  intro lp ld delay plen m s hpc halias hroom hquant
  obtain ⟨n, hn⟩ := Nat.exists_eq_add_of_le' hquant
  have hlast : stepAt (echoStartProg lp ld delay plen) 7 = some echoStartAct := rfl
  rw [exec_eq_runMessage, runMessage_run hpc, hn, instrProg]
  exact runActs_fault hlast (echoStartAct_aliases halias hroom)

end Sys2Proof.Proofs
end
